-- ==== Sys2Proof/Word.lean ====
section
/-! DEFINITION. The words of the block (rule R8): a byte of 8 bits, a value operand of 16 bits
(rule R21), a device address of 7 bits (rule R13). All values are unsigned. -/

namespace Sys2Proof

/-- A byte: 8 bits, bit 0 the least significant (rule R8). -/
abbrev Byte := BitVec 8

/-- A value operand or a recombined value: 16 bits (rules R21, R71, R73). -/
abbrev Word := BitVec 16

/-- A device address: 7 bits, so that all of 0..127 is legal and nothing else can be held (rule R13). -/
abbrev DeviceAddress := BitVec 7

end Sys2Proof
end

