-- ==== Sys2Proof/Syntax.lean ====
section
/-! DEFINITION. The operations of the block: one constructor of `Instr` per row of
spec/opcode_table.json, in the table's order (rule R48), with the operand fields of rule R21.
The command port is typed (rule R50): an operation is a record, not a word. -/

namespace Sys2Proof

/-- The framing mode (rule R14): the spec's 1-bit register MODE. -/
inductive Mode where
  /-- MODE = 0: the frame begins with the command code alone (rule R41). -/
  | compact
  /-- MODE = 1: the frame begins with sync byte, device address, command code (rule R42). -/
  | addressed
  deriving DecidableEq, Repr, Inhabited

/-- The bit MODE holds for each framing mode (rule R14). -/
def Mode.bit : Mode → BitVec 1
  | .compact => 0
  | .addressed => 1

/-- The three configuration values a frame is built from (rules R13 to R16). -/
structure Framing where
  mode : Mode
  devaddr : DeviceAddress
  csen : Bool
  deriving DecidableEq, Repr

/-- The 13 command names of rule R48: the domain of the parameter OPC (rule R6). -/
inductive Command where
  | setTarget | setSpeed | setAccel | setPwm | getPosition | getMovingState
  | setMultipleTargets | getErrors | goHome | stopScript | restartScript
  | restartScriptParam | getScriptStatus
  deriving DecidableEq, Repr

/-- Every command name, in the order of the opcode table. -/
def Command.all : List Command :=
  [.setTarget, .setSpeed, .setAccel, .setPwm, .getPosition, .getMovingState,
   .setMultipleTargets, .getErrors, .goHome, .stopScript, .restartScript,
   .restartScriptParam, .getScriptStatus]

/-- The operations presented at the ports: 13 commands, the creation, the host event, and the
5 primitives (rule R48). -/
inductive Instr where
  /-- SET_TARGET ch, v (rule R91). -/
  | setTarget (ch : Byte) (v : Word)
  /-- SET_SPEED ch, v (rule R92). -/
  | setSpeed (ch : Byte) (v : Word)
  /-- SET_ACCEL ch, v (rule R93). -/
  | setAccel (ch : Byte) (v : Word)
  /-- SET_PWM ch, on, per (rule R94). -/
  | setPwm (ch : Byte) (on per : Word)
  /-- GET_POSITION ch (rule R95). -/
  | getPosition (ch : Byte)
  /-- GET_MOVING_STATE (rule R81). -/
  | getMovingState
  /-- SET_MULTIPLE_TARGETS start, vals (rule R100). -/
  | setMultipleTargets (start : Byte) (vals : List Word)
  /-- GET_ERRORS (rule R82). -/
  | getErrors
  /-- GO_HOME (rule R83). -/
  | goHome
  /-- STOP_SCRIPT (rule R84). -/
  | stopScript
  /-- RESTART_SCRIPT sub (rule R85). -/
  | restartScript (sub : Byte)
  /-- RESTART_SCRIPT_PARAM sub, val (rule R86). -/
  | restartScriptParam (sub : Byte) (val : Word)
  /-- GET_SCRIPT_STATUS (rule R87). -/
  | getScriptStatus
  /-- INIT addr, mode, crc (rule R121). -/
  | init (addr : DeviceAddress) (mode : Mode) (crc : Bool)
  /-- REPLY_DONE, the host event (rule R124). -/
  | replyDone
  /-- CRC7(prev, xs) (rule R63). -/
  | crc7 (prev : Byte) (xs : List Byte)
  /-- TRAIL(xs) (rule R66). -/
  | trail (xs : List Byte)
  /-- ENC14(v) (rule R70). -/
  | enc14 (v : Word)
  /-- DEC14(lo, hi) (rule R71). -/
  | dec14 (lo hi : Byte)
  /-- DEC16(lo, hi) (rule R73). -/
  | dec16 (lo hi : Byte)
  deriving DecidableEq, Repr

/-- The command name of an operation: none for the creation, the host event and the primitives. -/
def Instr.command? : Instr → Option Command
  | .setTarget _ _ => some .setTarget
  | .setSpeed _ _ => some .setSpeed
  | .setAccel _ _ => some .setAccel
  | .setPwm _ _ _ => some .setPwm
  | .getPosition _ => some .getPosition
  | .getMovingState => some .getMovingState
  | .setMultipleTargets _ _ => some .setMultipleTargets
  | .getErrors => some .getErrors
  | .goHome => some .goHome
  | .stopScript => some .stopScript
  | .restartScript _ => some .restartScript
  | .restartScriptParam _ _ => some .restartScriptParam
  | .getScriptStatus => some .getScriptStatus
  | .init _ _ _ => none
  | .replyDone => none
  | .crc7 _ _ => none
  | .trail _ => none
  | .enc14 _ => none
  | .dec14 _ _ => none
  | .dec16 _ _ => none

/-- The operation is one of the 13 commands of rule R48. -/
def Instr.isCommand (i : Instr) : Bool := i.command?.isSome

end Sys2Proof
end

