-- ==== Sys2Proof/Config.lean ====
section
/-! DEFINITION. What is fixed for the block: the constants the spec gives a value (rules R2 to R4,
R51), the three open parameters POLY, OPC and AUTOBAUD (rules R5 to R7), and the free values of
the configuration registers before INIT (rule R120).

The open parameters are opaque: the spec gives them no value, so no proof can see one and every
claim about the machine holds for any value of them. The spec's defaults are
`Sys2Proof.Machine.tableDefaults`, an ordinary value of `Params` that no meaning uses. -/

namespace Sys2Proof

/-- The open parameters of the design (rules R5, R6, R7). -/
structure Params where
  /-- POLY, the constant the CRC table is built from (rule R5). -/
  poly : Byte
  /-- OPC, the command code of each of the 13 names (rule R6). -/
  opc : Command → Byte
  /-- AUTOBAUD, the byte sent on creation (rule R7). -/
  autobaud : Byte

/-- N, the maximum channel count, the bound on the number of values of a batch (rule R2). -/
abbrev Config.channels : Nat := 24

/-- MAXENC, the largest value a 14-bit field carries (rule R3). -/
abbrev Config.maxenc : Nat := 0x3FFF

/-- SYNC, the first byte of every addressed frame (rule R4). -/
abbrev Config.sync : Byte := 0xAA#8

/-- FMAX, the length of the longest frame (rule R51). -/
abbrev Config.fmax : Nat := 54

/-- POLY (rule R5): an 8-bit constant whose value the spec leaves open (decision D1). -/
opaque Config.poly : Byte

/-- OPC (rule R6): the command codes, left open, with no constraint on them (decision D3). -/
opaque Config.opc : Command → Byte

/-- AUTOBAUD (rule R7): the creation byte, left open (decision D4). -/
opaque Config.autobaud : Byte

/-- The parameters of this block. -/
def Config.params : Params where
  poly := Config.poly
  opc := Config.opc
  autobaud := Config.autobaud

/-- What DEVADDR holds before INIT: rule R120 forbids a model to pick a value.
DESIGN CHOICE (log 1), unsafe: one unknown value, the same in every run. -/
opaque Config.unsetDevaddr : DeviceAddress

/-- What MODE holds before INIT, as for `Config.unsetDevaddr`. DESIGN CHOICE (log 2), unsafe. -/
opaque Config.unsetMode : Mode

/-- What CSEN holds before INIT, as for `Config.unsetDevaddr`. DESIGN CHOICE (log 3), unsafe. -/
opaque Config.unsetCsen : Bool

end Sys2Proof
end

