-- ==== Sys2Proof/Machine/Codes.lean ====
section
/-! DEFINITION. The defaults of the open parameters, as the spec prints them (the table of rule R48,
rules R5 and R7). The spec marks all of them "from general knowledge, not in source": no meaning of
the machine uses them. They serve the opcode table's decoder and the test vectors (log 6). -/

namespace Sys2Proof.Machine

/-- The default command code column of rule R48 (GK2). -/
def defaultCode : Command → Byte
  | .setTarget => 0x84
  | .setSpeed => 0x87
  | .setAccel => 0x89
  | .setPwm => 0x8A
  | .getPosition => 0x90
  | .getMovingState => 0x93
  | .setMultipleTargets => 0x9F
  | .getErrors => 0xA1
  | .goHome => 0xA2
  | .stopScript => 0xA4
  | .restartScript => 0xA7
  | .restartScriptParam => 0xA8
  | .getScriptStatus => 0xAE

/-- POLY = 0x91 (GK1), the codes of rule R48 (GK2), AUTOBAUD = 0xAA (GK3). -/
def tableDefaults : Params where
  poly := 0x91
  opc := defaultCode
  autobaud := 0xAA

end Sys2Proof.Machine
end

