-- ==== Sys2Proof/Machine/Crc.lean ====
section
/-! DEFINITION. The CRC-7 generator as functions of the polynomial (40_crc7.md): the bit step, the
table, the fold, the trailer value, and the table's image as a 256-byte read-only store. -/

namespace Sys2Proof.Machine

/-- CRCSTEP(v): exclusive-or with POLY if the low bit is set, then shift right by one in every case
(rule R60, decision D2). -/
def crcStep (poly v : Byte) : Byte :=
  (if v.getLsbD 0 then v ^^^ poly else v) >>> 1

/-- TABLE[i]: CRCSTEP applied 8 times to the index (rule R61). The table is a constant function of
POLY, so it is complete from power-on and cannot be written (rules R12, R33, R129). -/
def crcTable (poly i : Byte) : Byte :=
  crcStep poly (crcStep poly (crcStep poly (crcStep poly
    (crcStep poly (crcStep poly (crcStep poly (crcStep poly i)))))))

/-- The table written out as the read-only store of rule R30: 256 entries, index 0 first. -/
def crcRom (poly : Byte) : List Byte :=
  (List.range 256).map (fun i => crcTable poly (BitVec.ofNat 8 i))

/-- One byte update of the accumulator: ACC <- TABLE[ACC xor b] (rule R62). -/
def crcUpdate (poly acc b : Byte) : Byte := crcTable poly (acc ^^^ b)

/-- CRC7(prev, xs): the fold of the update over the bytes, first byte first; not masked (rule R63). -/
def crc7 (poly : Byte) : Byte → List Byte → Byte
  | prev, [] => prev
  | prev, b :: rest => crc7 poly (crcUpdate poly prev b) rest

/-- TRAIL(xs) = CRC7(0, xs) & 0x7F (rule R66). -/
def trail (poly : Byte) (xs : List Byte) : Byte := crc7 poly 0#8 xs &&& 0x7F#8

end Sys2Proof.Machine
end

