-- ==== Sys2Proof/WellFormed.lean ====
section
/-! DEFINITION. The checks on an operation record that the types of its fields do not already make.
`wellFormed` is what the port can carry; `fitsWire` is the stronger host duty that every value
operand fits the 14 bits a frame carries, which the block itself does not check (rule R74). -/

namespace Sys2Proof

/-- The operation can be presented at the command port: a batch has at most N = 24 values, for the
port's vector has 24 slots (rules R21, R100, R103 (a)). Every other field is in range by its type. -/
def Instr.wellFormed : Instr → Bool
  | .setMultipleTargets _ vals => decide (vals.length ≤ Config.channels)
  | .setTarget _ _ => true
  | .setSpeed _ _ => true
  | .setAccel _ _ => true
  | .setPwm _ _ _ => true
  | .getPosition _ => true
  | .getMovingState => true
  | .getErrors => true
  | .goHome => true
  | .stopScript => true
  | .restartScript _ => true
  | .restartScriptParam _ _ => true
  | .getScriptStatus => true
  | .init _ _ _ => true
  | .replyDone => true
  | .crc7 _ _ => true
  | .trail _ => true
  | .enc14 _ => true
  | .dec14 _ _ => true
  | .dec16 _ _ => true

/-- The value operand fits a 14-bit field: at most MAXENC (rule R3). -/
def fitsField (v : Word) : Bool := decide (v.toNat ≤ Config.maxenc)

/-- Every value operand of the operation fits the 14 bits sent (rule R130, third row). -/
def Instr.fitsWire : Instr → Bool
  | .setTarget _ v => fitsField v
  | .setSpeed _ v => fitsField v
  | .setAccel _ v => fitsField v
  | .setPwm _ on per => fitsField on && fitsField per
  | .getPosition _ => true
  | .getMovingState => true
  | .setMultipleTargets _ vals => vals.all fitsField
  | .getErrors => true
  | .goHome => true
  | .stopScript => true
  | .restartScript _ => true
  | .restartScriptParam _ val => fitsField val
  | .getScriptStatus => true
  | .init _ _ _ => true
  | .replyDone => true
  | .crc7 _ _ => true
  | .trail _ => true
  | .enc14 v => fitsField v
  | .dec14 _ _ => true
  | .dec16 _ _ => true

end Sys2Proof
end

