-- ==== Sys2Proof/Decode.lean ====
section
/-! DEFINITION. Reading and writing the wire encodings of spec/opcode_table.json. The command port itself
is typed (rule R50); the table's encodings are the frames the commands produce, so the decoder is that
of a receiver that knows the configuration (rule R51), for any parameters. The encoder below it is
written from the table's bit patterns, apart from the machine's datapath. -/

namespace Sys2Proof

/-- Why a byte list is not the encoding of an operation. -/
inductive DecodeError where
  /-- The bytes end before the operation does. -/
  | truncated
  /-- An addressed frame must begin with the sync byte (rule R42). -/
  | badSync (b : Byte)
  /-- The frame is for another device address (rule R42). -/
  | otherDevice (b : Byte)
  /-- No command has this code (rule R48). -/
  | unknownCode (b : Byte)
  /-- A value byte has its top bit set (rule R75). -/
  | topBitSet (b : Byte)
  /-- The count byte is above 24 (rule R100). -/
  | countTooLarge (b : Byte)
  /-- The trailer is not the checksum of the bytes before it (rule R45). -/
  | badTrailer (b : Byte)
  deriving DecidableEq, Repr

/-- What reading a part of a byte list answers: the part and the bytes after it, or why not. -/
abbrev Reading (α : Type) := Except DecodeError (α × List Byte)

/-- The 8 bits `0xxxxxxx`: a 7-bit field under a clear top bit. -/
def sevenBits (x : BitVec 7) : Byte := x.setWidth 8

/-- The command byte as it stands in a frame: the code, or its low seven bits (rules R41, R42). -/
def codeByte (p : Params) (m : Mode) (c : Command) : Byte :=
  match m with
  | .compact => p.opc c
  | .addressed => sevenBits ((p.opc c).extractLsb' 0 7)

/-- The command whose byte this is: the first of rule R48's list, should two codes coincide (log 7). -/
def commandOf (p : Params) (m : Mode) (b : Byte) : Option Command :=
  Command.all.find? (fun c => codeByte p m c == b)

/-- The command byte of a frame. -/
def readCommand (p : Params) (m : Mode) : List Byte → Reading Command
  | [] => .error .truncated
  | b :: rest =>
    match commandOf p m b with
    | some c => .ok (c, rest)
    | none => .error (.unknownCode b)

/-- The head of a frame: rule R41's one byte or rule R42's three. -/
def readHead (p : Params) (f : Framing) (bs : List Byte) : Reading Command :=
  match f.mode with
  | .compact => readCommand p .compact bs
  | .addressed =>
    match bs with
    | b0 :: b1 :: rest =>
      if b0 ≠ 0b10101010#8 then .error (.badSync b0)
      else if b1 ≠ sevenBits f.devaddr then .error (.otherDevice b1)
      else readCommand p .addressed rest
    | _ => .error .truncated

/-- A pass-through operand byte: all 8 bits as they stand (rule R49). -/
def readByte : List Byte → Reading Byte
  | [] => .error .truncated
  | b :: rest => .ok (b, rest)

/-- The 14 bits of a value field in a 16-bit value: v[6:0] and v[13:7] (rule R54). -/
def joinSevens (lo hi : BitVec 7) : Word := lo.setWidth 16 ||| (hi.setWidth 16 <<< 7)

/-- A value field: `0lllllll 0hhhhhhh`, the two 7-bit parts joined (rules R54, R75). -/
def readValue : List Byte → Reading Word
  | lo :: hi :: rest =>
    if lo.msb then .error (.topBitSet lo)
    else if hi.msb then .error (.topBitSet hi)
    else .ok (joinSevens (lo.extractLsb' 0 7) (hi.extractLsb' 0 7), rest)
  | _ => .error .truncated

/-- `n` value fields, one after another. -/
def readValues : Nat → List Byte → Reading (List Word)
  | 0, bs => .ok ([], bs)
  | n + 1, bs =>
    match readValue bs with
    | .error e => .error e
    | .ok (v, rest) =>
      match readValues n rest with
      | .error e => .error e
      | .ok (vs, rest') => .ok (v :: vs, rest')

/-- A byte operand and a value field (formats C1V and D1V). -/
def readByteValue (bs : List Byte) : Reading (Byte × Word) :=
  match readByte bs with
  | .error e => .error e
  | .ok (b, rest) =>
    match readValue rest with
    | .error e => .error e
    | .ok (v, rest') => .ok ((b, v), rest')

/-- A byte operand and two value fields (format C2V). -/
def readByteTwoValues (bs : List Byte) : Reading (Byte × Word × Word) :=
  match readByteValue bs with
  | .error e => .error e
  | .ok ((b, v), rest) =>
    match readValue rest with
    | .error e => .error e
    | .ok (w, rest') => .ok ((b, v, w), rest')

/-- Count byte, start byte and that many values (format M). A count of 0, which no frame carries
(rule R101), reads as the empty batch (log 7). -/
def readBatch : List Byte → Reading (Byte × List Word)
  | n :: start :: rest =>
    if n.toNat ≤ Config.channels then
      match readValues n.toNat rest with
      | .error e => .error e
      | .ok (vs, rest') => .ok ((start, vs), rest')
    else .error (.countTooLarge n)
  | _ => .error .truncated

/-- Apply a constructor to what was read. -/
def Reading.as {α : Type} (r : Reading α) (mk : α → Instr) : Reading Instr :=
  match r with
  | .error e => .error e
  | .ok (a, rest) => .ok (mk a, rest)

/-- The operand bytes of each command, by its format (rule R47). -/
def readOperands (c : Command) (bs : List Byte) : Reading Instr :=
  match c with
  | .setTarget => (readByteValue bs).as fun a => .setTarget a.1 a.2
  | .setSpeed => (readByteValue bs).as fun a => .setSpeed a.1 a.2
  | .setAccel => (readByteValue bs).as fun a => .setAccel a.1 a.2
  | .setPwm => (readByteTwoValues bs).as fun a => .setPwm a.1 a.2.1 a.2.2
  | .getPosition => (readByte bs).as fun ch => .getPosition ch
  | .getMovingState => .ok (.getMovingState, bs)
  | .setMultipleTargets => (readBatch bs).as fun a => .setMultipleTargets a.1 a.2
  | .getErrors => .ok (.getErrors, bs)
  | .goHome => .ok (.goHome, bs)
  | .stopScript => .ok (.stopScript, bs)
  | .restartScript => (readByte bs).as fun sub => .restartScript sub
  | .restartScriptParam => (readByteValue bs).as fun a => .restartScriptParam a.1 a.2
  | .getScriptStatus => .ok (.getScriptStatus, bs)

/-- The trailer `0kkkkkkk` over the bytes before it (rules R45, R66). -/
def trailerByte (p : Params) (before : List Byte) : Byte :=
  sevenBits ((Machine.crc7 p.poly 0#8 before).extractLsb' 0 7)

/-- The trailer of a frame, if the configuration has one: `before` is every byte ahead of it. -/
def readTrailer (p : Params) (f : Framing) (before : List Byte) (i : Instr) (bs : List Byte) :
    Reading Instr :=
  if f.csen then
    match bs with
    | [] => .error .truncated
    | k :: rest => if k = trailerByte p before then .ok (i, rest) else .error (.badTrailer k)
  else .ok (i, bs)

/-- A frame at the front of a byte list (rules R40, R51). -/
def decodeFrame (p : Params) (f : Framing) (bs : List Byte) : Reading Instr :=
  match readHead p f bs with
  | .error e => .error e
  | .ok (c, rest) =>
    match readOperands c rest with
    | .error e => .error e
    | .ok (i, rest') => readTrailer p f (bs.take (bs.length - rest'.length)) i rest'

/-- The bytes are the auto-baud byte of a creation and not a frame (rule R121): it stands alone in its
burst in addressed mode, where it may equal the sync byte, and is no command's code in compact mode. -/
def isCreation (p : Params) (f : Framing) (bs : List Byte) : Bool :=
  match f.mode with
  | .compact =>
    match bs with
    | [] => false
    | b :: _ => b == p.autobaud && (commandOf p .compact b).isNone
  | .addressed => bs == [p.autobaud]

/-- The decoder: the operation at the front of a byte list and the bytes after it, or a named rejection.
The auto-baud byte carries no operand of INIT, so its operands read as the fields whose bits are all
0 (log 7). -/
def decode (p : Params) (f : Framing) (bs : List Byte) : Reading Instr :=
  if isCreation p f bs then .ok (.init 0 .compact false, bs.drop 1) else decodeFrame p f bs

/-- The bytes of a table word: bit 0 is the least significant bit of the first byte; the bytes above
`nbits` are 0, up to the longest operation. -/
def tableBytes (nbits w : Nat) : List Byte :=
  (List.range ((nbits + 7) / 8)).map (fun k => BitVec.ofNat 8 (w / 256 ^ k)) ++
    List.replicate Config.fmax 0

/-- The configuration the table's `match` column is written for: compact, no trailer. -/
def tableFraming : Framing where
  mode := .compact
  devaddr := 0
  csen := false

/-- The operation the decoder reads from a word of the opcode table, at the table's default codes. -/
def decodeTableWord (nbits w : Nat) : Option Instr :=
  match decode Machine.tableDefaults tableFraming (tableBytes nbits w) with
  | .ok (i, _) => some i
  | .error _ => none

/-- The encoding of a value field, from the table's pattern `0lllllll 0hhhhhhh`. -/
def valueField (v : Word) : List Byte :=
  [sevenBits (v.extractLsb' 0 7), sevenBits (v.extractLsb' 7 7)]

/-- The count byte `000nnnnn`: a 5-bit count under three clear bits. -/
def countByte (n : Nat) : Byte := (BitVec.ofNat 5 n).setWidth 8

/-- The head of a frame, from the table's patterns. -/
def headBytes (p : Params) (f : Framing) (c : Command) : List Byte :=
  match f.mode with
  | .compact => [codeByte p .compact c]
  | .addressed => [0b10101010#8, sevenBits f.devaddr, codeByte p .addressed c]

/-- The operand bytes of the table's encoding column; none for an operation with no frame: an empty
batch (rule R101), the creation, the host event and the primitives. -/
def operandBytes : Instr → Option (Command × List Byte)
  | .setTarget ch v => some (.setTarget, ch :: valueField v)
  | .setSpeed ch v => some (.setSpeed, ch :: valueField v)
  | .setAccel ch v => some (.setAccel, ch :: valueField v)
  | .setPwm ch on per => some (.setPwm, ch :: (valueField on ++ valueField per))
  | .getPosition ch => some (.getPosition, [ch])
  | .getMovingState => some (.getMovingState, [])
  | .setMultipleTargets _ [] => none
  | .setMultipleTargets start (v :: vs) =>
    some (.setMultipleTargets,
      countByte (vs.length + 1) :: start :: (v :: vs).flatMap valueField)
  | .getErrors => some (.getErrors, [])
  | .goHome => some (.goHome, [])
  | .stopScript => some (.stopScript, [])
  | .restartScript sub => some (.restartScript, [sub])
  | .restartScriptParam sub val => some (.restartScriptParam, sub :: valueField val)
  | .getScriptStatus => some (.getScriptStatus, [])
  | .init _ _ _ => none
  | .replyDone => none
  | .crc7 _ _ => none
  | .trail _ => none
  | .enc14 _ => none
  | .dec14 _ _ => none
  | .dec16 _ _ => none

/-- The trailer, if the configuration has one (rule R45). -/
def withTrailer (p : Params) (f : Framing) (bs : List Byte) : List Byte :=
  if f.csen then bs ++ [trailerByte p bs] else bs

/-- The frame of a command, none for an operation without one. -/
def encodeFrame (p : Params) (f : Framing) (i : Instr) : Option (List Byte) :=
  match operandBytes i with
  | none => none
  | some (c, bs) => some (withTrailer p f (headBytes p f c ++ bs))

/-- The encoder: the wire bytes of an operation. The creation is the bare auto-baud byte in every
configuration (rule R121); the host event and the primitives have no wire encoding (rule R48). -/
def encode (p : Params) (f : Framing) (i : Instr) : Option (List Byte) :=
  match i with
  | .init _ _ _ => some [p.autobaud]
  | .setTarget _ _ | .setSpeed _ _ | .setAccel _ _ | .setPwm _ _ _ | .getPosition _
  | .getMovingState | .setMultipleTargets _ _ | .getErrors | .goHome | .stopScript
  | .restartScript _ | .restartScriptParam _ _ | .getScriptStatus | .replyDone
  | .crc7 _ _ | .trail _ | .enc14 _ | .dec14 _ _ | .dec16 _ _ => encodeFrame p f i

end Sys2Proof
end

