-- ==== Sys2Proof/Machine/State.lean ====
section
/-! DEFINITION. The state of the block (rule R10), the values it returns to the host, the reasons an
operation is refused (rule R111), and the state after reset (rule R120). The hardware has no
memory (rule R30), no program counter (rule R22), no register file (rule R21) and no flags (rule R23). -/

namespace Sys2Proof.Machine

/-- A value that a primitive hands back to the host (rules R23, R131). -/
inductive Returned where
  /-- The result of CRC7 and of TRAIL: one byte (rules R63, R66). -/
  | byte (b : Byte)
  /-- The result of ENC14: a list of two bytes (rule R70). -/
  | bytes (bs : List Byte)
  /-- The result of DEC14 and of DEC16: 16 bits (rules R71, R73). -/
  | word (w : Word)
  deriving DecidableEq, Repr

/-- The reasons a step stops with a fault. There is none: the block raises no exception, and a model
never gives an operation a fault outcome (rule R110; decision D12). Safe only as far as that rule is:
a failure the spec omits would be missing here. -/
inductive Fault where
  deriving DecidableEq, Repr

/-- The reasons an operation is not accepted (rule R111), and two of the model's own. -/
inductive Refusal where
  /-- Raised by `exec` for an instruction that has no meaning yet. No arm raises it. Safe. -/
  | notModelled (mnemonic : String)
  /-- `not_created`: a command or REPLY_DONE presented while READY = 0 (rules R111, R123). Safe: the
  spec gives the situation no meaning. -/
  | notCreated
  /-- `reply_outstanding`: a command presented while PENDING is not 0 (rules R111, R124). Safe: the
  spec calls the outcome undefined interleaving and asks for a refusal. -/
  | replyOutstanding
  /-- `already_created`: INIT presented while READY = 1 (rules R111, R122). Safe, as above. -/
  | alreadyCreated
  /-- Raised by `step` for a batch of more than 24 values, which the port cannot carry (rule R103 (a),
  decision D13): no such operation exists. Safe (log 9). -/
  | vectorTooLong
  deriving DecidableEq, Repr

/-- The state of the block. The first eight fields are the tuple of rule R10; the last two are the
model's own view of the ports (logs 4 and 5). -/
structure State where
  /-- READY: 0 from reset until INIT completes (rule R17). -/
  ready : Bool
  /-- DEVADDR: the device address of addressed frames (rule R13). -/
  devaddr : DeviceAddress
  /-- MODE: the framing mode (rule R14). -/
  mode : Mode
  /-- CSEN: checksum enable (rule R15). -/
  csen : Bool
  /-- ACC: the CRC accumulator, transient inside one command (rule R18). -/
  acc : Byte
  /-- FB: the frame buffer, empty between operations (rule R19). -/
  fb : List Byte
  /-- TXLOG: the bursts handed to the transport since reset, in order (rule R25). -/
  txlog : List (List Byte)
  /-- PENDING: reply bytes the most recent command still expects (rule R20). -/
  pending : Fin 3
  /-- MODEL: the operations the host presents at the port from here on, next one first (rule R22). -/
  port : List Instr
  /-- MODEL: the values the primitives have returned to the host, in order (rule R131). -/
  returned : List Returned
  deriving DecidableEq, Repr

/-- The outcome of an operation or of a step. -/
abbrev Result := Host.Outcome State Fault Refusal

/-- The machine right after reset (rule R120). The three configuration registers hold no value the
model picks: each holds an opaque constant that nothing can read before INIT writes it (logs 1 to 3). -/
def State.reset : State where
  ready := false
  devaddr := Config.unsetDevaddr
  mode := Config.unsetMode
  csen := Config.unsetCsen
  acc := 0#8
  fb := []
  txlog := []
  pending := 0
  port := []
  returned := []

/-- The configuration a frame is built from, read anew for every frame (rule R16). -/
def State.framing (s : State) : Framing where
  mode := s.mode
  devaddr := s.devaddr
  csen := s.csen

end Sys2Proof.Machine
end

