-- ==== Sys2Proof/Machine/Flags.lean ====
section
/-! DEFINITION. The block has no flags or condition codes (rule R23). What an operation tests before it
is accepted is the status bit READY and the ghost PENDING; those tests stand here, once (log 19). -/

namespace Sys2Proof.Machine

/-- Why a command is refused, if it is: READY is tested before PENDING (rules R80, R111, R113). -/
def commandRefusal (s : State) : Option Refusal :=
  if s.ready = false then some .notCreated
  else if s.pending ≠ 0 then some .replyOutstanding
  else none

/-- Why INIT is refused, if it is: creation happens once per reset (rule R122). -/
def creationRefusal (s : State) : Option Refusal :=
  if s.ready = true then some .alreadyCreated else none

/-- Why REPLY_DONE is refused, if it is (rule R124). -/
def replyRefusal (s : State) : Option Refusal :=
  if s.ready = false then some .notCreated else none

end Sys2Proof.Machine
end

