-- ==== Sys2Proof/Machine/Operands.lean ====
section
/-! DEFINITION. The operand forms: the 14-bit codec (41_codec.md), the seven body formats of rule R47,
the preambles (rules R41, R42) and the frame as a function of the configuration (rule R40). -/

namespace Sys2Proof.Machine

/-- The low byte of a value field: v & 0x7F (rule R70). Bits 15:14 of `v` reach neither byte (rule R74). -/
def lowByte (v : Word) : Byte := (v &&& 0x7F#16).setWidth 8

/-- The high byte of a value field: (v >> 7) & 0x7F (rule R70). -/
def highByte (v : Word) : Byte := ((v >>> 7) &&& 0x7F#16).setWidth 8

/-- ENC14(v), low byte first (rules R31 item 1, R44, R70; decision D5). -/
def enc14 (v : Word) : List Byte := [lowByte v, highByte v]

/-- DEC14(lo, hi) = lo + (hi << 7), unmasked (rule R71; decision D9, conflict C3). -/
def dec14 (lo hi : Byte) : Word := lo.setWidth 16 + (hi.setWidth 16 <<< 7)

/-- DEC16(lo, hi) = lo + (hi << 8) (rule R73). -/
def dec16 (lo hi : Byte) : Word := lo.setWidth 16 + (hi.setWidth 16 <<< 8)

/-- Format D0: no body (rule R47). -/
def bodyD0 : List Byte := []

/-- Format D1: the subroutine byte, unchanged (rules R47, R85). -/
def bodyD1 (sub : Byte) : List Byte := [sub]

/-- Format D1V: the subroutine byte, then the value (rules R47, R86). -/
def bodyD1V (sub : Byte) (val : Word) : List Byte := [sub] ++ enc14 val

/-- Format C0: the channel byte, unchanged (rules R43, R47, R90). -/
def bodyC0 (ch : Byte) : List Byte := [ch]

/-- Format C1V: the channel byte, then the value (rules R43, R47). -/
def bodyC1V (ch : Byte) (v : Word) : List Byte := [ch] ++ enc14 v

/-- Format C2V: the channel byte, then the on-time pair, then the period pair (rules R47, R94). -/
def bodyC2V (ch : Byte) (on per : Word) : List Byte := [ch] ++ enc14 on ++ enc14 per

/-- Format M: count byte, start-channel byte, then the values in order (rules R47, R100). The count
is the length of the list written as one byte (rule R54). -/
def bodyM (start : Byte) (vals : List Word) : List Byte :=
  [BitVec.ofNat 8 vals.length, start] ++ vals.flatMap enc14

/-- PRE(op): the compact preamble (rule R41) or the addressed one (rule R42). -/
def preamble (f : Framing) (op : Byte) : List Byte :=
  match f.mode with
  | .compact => [op]
  | .addressed => [Config.sync, f.devaddr.setWidth 8, op &&& 0x7F#8]

/-- FRAME(op, body): preamble, body, and the trailer over all bytes before it when the checksum is
enabled (rules R40, R45). -/
def frame (poly : Byte) (f : Framing) (op : Byte) (body : List Byte) : List Byte :=
  let g := preamble f op ++ body
  if f.csen then g ++ [trail poly g] else g

end Sys2Proof.Machine
end

