-- ==== Sys2Proof/Machine/Ops.lean ====
section
/-! DEFINITION. The named operations over the state: the datapath of a frame (FB, ACC, the transport
port), the step every command takes (rule R80), creation (rule R121), the host event (rule R124) and the
primitives' result port (rule R131). There is no memory to read or write (rule R30). The block takes no
exception and returns from none (rules R110, R114), so there is no operation for either. -/

namespace Sys2Proof.Machine

/-- The formatter puts bytes into an empty frame buffer: `FB <- xs` (rules R19, R80). -/
def State.loadFb (s : State) (xs : List Byte) : State := { s with fb := xs }

/-- The formatter appends one byte to the frame buffer (rules R19, R30). -/
def State.appendFb (s : State) (b : Byte) : State := { s with fb := s.fb ++ [b] }

/-- The accumulator is seeded with 0 at the start of a trailer computation (rule R18). -/
def State.seedAcc (s : State) : State := { s with acc := 0#8 }

/-- The CRC unit takes one frame byte: `ACC <- TABLE[ACC xor b]` (rules R18, R62). -/
def State.feedAcc (poly : Byte) (s : State) (b : Byte) : State :=
  { s with acc := crcUpdate poly s.acc b }

/-- TX.emit: hand a byte list to the transport as one write call; one burst is logged (rules R9, R25, R46). -/
def State.txEmit (s : State) (burst : List Byte) : State := { s with txlog := s.txlog ++ [burst] }

/-- `PENDING <- r` (rules R20, R80, R124). -/
def State.setPending (s : State) (r : Fin 3) : State := { s with pending := r }

/-- INIT latches the three configuration registers (rule R121). -/
def State.latch (s : State) (addr : DeviceAddress) (mode : Mode) (crc : Bool) : State :=
  { s with devaddr := addr, mode := mode, csen := crc }

/-- `READY <- 1` (rule R121). -/
def State.setReady (s : State) : State := { s with ready := true }

/-- A primitive's value appears at the result port; nothing else changes (rules R65, R111, R131). -/
def State.giveBack (s : State) (r : Returned) : State := { s with returned := s.returned ++ [r] }

/-- The CRC unit folds the bytes in the buffer, then the formatter appends the accumulator masked to 7
bits: the trailer (rules R18, R45). DEDUCED (log 8): the accumulator keeps the folded value. -/
def State.appendTrailer (poly : Byte) (s : State) : State :=
  let folded := s.fb.foldl (State.feedAcc poly) s.seedAcc
  folded.appendFb (folded.acc &&& 0x7F#8)

/-- The formatter assembles a frame in the buffer: preamble, body, and the trailer if CSEN = 1
(rules R19, R40, R45). -/
def State.assemble (p : Params) (op : Byte) (body : List Byte) (s : State) : State :=
  let loaded := s.loadFb (preamble s.framing op ++ body)
  if loaded.csen then loaded.appendTrailer p.poly else loaded

/-- The whole buffer goes to the transport in one call and the buffer is empty again (rules R46, R80). -/
def State.sendFb (s : State) : State := (s.txEmit s.fb).loadFb []

/-- The step every command takes, at given parameters: the acceptance tests, the frame, the emission,
and the reply length (rule R80). -/
def commandWith (p : Params) (c : Command) (body : List Byte) (r : Fin 3) (s : State) : Result :=
  match commandRefusal s with
  | some why => .refused why
  | none => .next (((s.assemble p (p.opc c) body).sendFb).setPending r)

/-- The step every command takes in this block. -/
def runCommand (c : Command) (body : List Byte) (r : Fin 3) (s : State) : Result :=
  commandWith Config.params c body r s

/-- A command that is accepted and emits nothing: the empty batch (rule R101, decision D11). -/
def runEmptyCommand (s : State) : Result :=
  match commandRefusal s with
  | some why => .refused why
  | none => .next s

/-- Creation at given parameters: latch the configuration, emit the bare auto-baud byte, become ready
(rule R121, decision D4). -/
def createWith (p : Params) (addr : DeviceAddress) (mode : Mode) (crc : Bool) (s : State) : Result :=
  match creationRefusal s with
  | some why => .refused why
  | none => .next (((s.latch addr mode crc).txEmit [p.autobaud]).setReady)

/-- The host has consumed the reply, or has given up on it (rule R124). -/
def endReply (s : State) : Result :=
  match replyRefusal s with
  | some why => .refused why
  | none => .next (s.setPending 0)

/-- A primitive is never refused (rule R111). -/
def answer (r : Returned) (s : State) : Result := .next (s.giveBack r)

/-- Nothing is presented: nothing happens (rule R112). DEDUCED (log 4). -/
def idle (s : State) : Result := .next s

/-- The port cannot carry this record (rule R103 (a)); log 9. -/
def rejectRecord : Result := .refused .vectorTooLong

/-- The host's presented operation leaves the port as it is taken (rule R22). -/
def State.take (s : State) (rest : List Instr) : State := { s with port := rest }

/-- The host presents these operations and no others. -/
def State.present (s : State) (ops : List Instr) : State := { s with port := ops }

end Sys2Proof.Machine
end

