-- ==== Sys2Proof/Machine/Batch.lean ====
section
/-! DEFINITION. The batched multi-target command (44_batch_command.md, format M). -/

namespace Sys2Proof.Machine

/-- SET_MULTIPLE_TARGETS start, vals: one whole frame (rules R100, R102, R103), or, for an empty list,
the same acceptance tests and then nothing (rule R101). -/
def execSetMultipleTargets (start : Byte) (vals : List Word) (s : State) : Result :=
  match vals with
  | [] => runEmptyCommand s
  | v :: rest => runCommand .setMultipleTargets (bodyM start (v :: rest)) 0 s

end Sys2Proof.Machine
end

