-- ==== Sys2Proof/Machine/Channel.lean ====
section
/-! DEFINITION. The per-channel commands (43_channel_commands.md, formats C0, C1V, C2V). The channel byte
is framed as given, whatever its value (rule R90). -/

namespace Sys2Proof.Machine

/-- SET_TARGET ch, v (rule R91). -/
def execSetTarget (ch : Byte) (v : Word) (s : State) : Result := runCommand .setTarget (bodyC1V ch v) 0 s

/-- SET_SPEED ch, v (rule R92). -/
def execSetSpeed (ch : Byte) (v : Word) (s : State) : Result := runCommand .setSpeed (bodyC1V ch v) 0 s

/-- SET_ACCEL ch, v (rule R93). -/
def execSetAccel (ch : Byte) (v : Word) (s : State) : Result := runCommand .setAccel (bodyC1V ch v) 0 s

/-- SET_PWM ch, on, per (rule R94): the on-time pair before the period pair. -/
def execSetPwm (ch : Byte) (on per : Word) (s : State) : Result :=
  runCommand .setPwm (bodyC2V ch on per) 0 s

/-- GET_POSITION ch (rule R95): two reply bytes. -/
def execGetPosition (ch : Byte) (s : State) : Result := runCommand .getPosition (bodyC0 ch) 2 s

end Sys2Proof.Machine
end

