-- ==== Sys2Proof/Machine/Creation.lean ====
section
/-! DEFINITION. The creation operation and the host event (70_reset_and_hazards.md). -/

namespace Sys2Proof.Machine

/-- INIT addr, mode, crc (rules R121, R122). -/
def execInit (addr : DeviceAddress) (mode : Mode) (crc : Bool) (s : State) : Result :=
  createWith Config.params addr mode crc s

/-- REPLY_DONE (rule R124). -/
def execReplyDone (s : State) : Result := endReply s

end Sys2Proof.Machine
end

