-- ==== Sys2Proof/Machine/Device.lean ====
section
/-! DEFINITION. The device-wide commands (42_device_commands.md, formats D0, D1, D1V). -/

namespace Sys2Proof.Machine

/-- GET_MOVING_STATE (rule R81): no operand, one reply byte. -/
def execGetMovingState (s : State) : Result := runCommand .getMovingState bodyD0 1 s

/-- GET_ERRORS (rule R82): no operand, two reply bytes. -/
def execGetErrors (s : State) : Result := runCommand .getErrors bodyD0 2 s

/-- GO_HOME (rule R83): no operand, no reply. -/
def execGoHome (s : State) : Result := runCommand .goHome bodyD0 0 s

/-- STOP_SCRIPT (rule R84): no operand, no reply. -/
def execStopScript (s : State) : Result := runCommand .stopScript bodyD0 0 s

/-- RESTART_SCRIPT sub (rule R85): the byte is framed unchanged, all 8 bits; no reply. -/
def execRestartScript (sub : Byte) (s : State) : Result := runCommand .restartScript (bodyD1 sub) 0 s

/-- RESTART_SCRIPT_PARAM sub, val (rule R86): no reply. -/
def execRestartScriptParam (sub : Byte) (val : Word) (s : State) : Result :=
  runCommand .restartScriptParam (bodyD1V sub val) 0 s

/-- GET_SCRIPT_STATUS (rule R87): no operand, one reply byte. -/
def execGetScriptStatus (s : State) : Result := runCommand .getScriptStatus bodyD0 1 s

end Sys2Proof.Machine
end

