-- ==== Sys2Proof/Machine/Primitives.lean ====
section
/-! DEFINITION. The five primitives (rules R63, R66, R70, R71, R73): pure functions, usable at any time,
also before INIT (rule R111). -/

namespace Sys2Proof.Machine

/-- CRC7(prev, xs): unmasked (rule R63); it touches no register, ACC included (rule R65). -/
def execCrc7 (prev : Byte) (xs : List Byte) (s : State) : Result :=
  answer (.byte (crc7 Config.poly prev xs)) s

/-- TRAIL(xs) (rule R66). -/
def execTrail (xs : List Byte) (s : State) : Result := answer (.byte (trail Config.poly xs)) s

/-- ENC14(v) (rule R70). -/
def execEnc14 (v : Word) (s : State) : Result := answer (.bytes (enc14 v)) s

/-- DEC14(lo, hi) (rule R71). -/
def execDec14 (lo hi : Byte) (s : State) : Result := answer (.word (dec14 lo hi)) s

/-- DEC16(lo, hi) (rule R73). -/
def execDec16 (lo hi : Byte) (s : State) : Result := answer (.word (dec16 lo hi)) s

end Sys2Proof.Machine
end

