-- ==== Sys2Proof/Machine/Dispatch.lean ====
section
/-! DEFINITION. exec: one arm per operation, each one direct call of its meaning. -/

namespace Sys2Proof.Machine

def exec (i : Instr) (s : State) : Host.Outcome State Fault Refusal :=
  match i with
  | .setTarget ch v => Sys2Proof.Machine.execSetTarget ch v s
  | .setSpeed ch v => Sys2Proof.Machine.execSetSpeed ch v s
  | .setAccel ch v => Sys2Proof.Machine.execSetAccel ch v s
  | .setPwm ch on per => Sys2Proof.Machine.execSetPwm ch on per s
  | .getPosition ch => Sys2Proof.Machine.execGetPosition ch s
  | .getMovingState => Sys2Proof.Machine.execGetMovingState s
  | .setMultipleTargets start vals => Sys2Proof.Machine.execSetMultipleTargets start vals s
  | .getErrors => Sys2Proof.Machine.execGetErrors s
  | .goHome => Sys2Proof.Machine.execGoHome s
  | .stopScript => Sys2Proof.Machine.execStopScript s
  | .restartScript sub => Sys2Proof.Machine.execRestartScript sub s
  | .restartScriptParam sub val => Sys2Proof.Machine.execRestartScriptParam sub val s
  | .getScriptStatus => Sys2Proof.Machine.execGetScriptStatus s
  | .init addr mode crc => Sys2Proof.Machine.execInit addr mode crc s
  | .replyDone => Sys2Proof.Machine.execReplyDone s
  | .crc7 prev xs => Sys2Proof.Machine.execCrc7 prev xs s
  | .trail xs => Sys2Proof.Machine.execTrail xs s
  | .enc14 v => Sys2Proof.Machine.execEnc14 v s
  | .dec14 lo hi => Sys2Proof.Machine.execDec14 lo hi s
  | .dec16 lo hi => Sys2Proof.Machine.execDec16 lo hi s

end Sys2Proof.Machine
end

