-- ==== Sys2Proof/Machine/Step.lean ====
section
/-! DEFINITION. The step: the operation the host presents next is executed (rules R22, R35); with none
presented, nothing happens (rule R112). -/

namespace Sys2Proof.Machine

/-- One step of the machine (logs 4 and 9). -/
def step (s : State) : Host.Outcome State Fault Refusal :=
  match s.port with
  | [] => idle s
  | i :: rest => if i.wellFormed then exec i (s.take rest) else rejectRecord

/-- The operation of a word of the opcode table, presented at the port (log 4): the block loads nothing
and has no program counter. -/
def State.withFetchWord (s : State) (nbits w : Nat) : State :=
  s.present (decodeTableWord nbits w).toList

end Sys2Proof.Machine
end

