-- ==== Sys2Proof/Machine/Replies.lean ====
section
/-! DEFINITION. The replies: how many bytes each command expects (the table of rule R48), and how the host
decodes the bytes it has read (rules R81, R82, R87, R95). Receiving a reply is the host's (00_scope.md
section 2): no step of the block calls anything here but through the recombiners it shares. -/

namespace Sys2Proof.Machine

/-- The reply bytes column of rule R48: the value PENDING takes when the command is accepted (rule R20). -/
def replyBytes : Command → Fin 3
  | .setTarget => 0
  | .setSpeed => 0
  | .setAccel => 0
  | .setPwm => 0
  | .getPosition => 2
  | .getMovingState => 1
  | .setMultipleTargets => 0
  | .getErrors => 2
  | .goHome => 0
  | .stopScript => 0
  | .restartScript => 0
  | .restartScriptParam => 0
  | .getScriptStatus => 1

/-- What a reply means to the host. -/
inductive Reply where
  /-- Servos not yet at target (rule R81). -/
  | moving (yes : Bool)
  /-- The error bitmap (rule R82). -/
  | errors (bitmap : Word)
  /-- A script is running (rule R87). -/
  | running (yes : Bool)
  /-- The position, 16 bits (rule R95). -/
  | position (value : Word)
  deriving DecidableEq, Repr

/-- The moving-state byte: any non-zero value means true (rule R81). -/
def movingReply (m : Byte) : Bool := m != 0

/-- The script-status byte: 0 means running (rule R87). -/
def runningReply (b : Byte) : Bool := b == 0

/-- The host's decoding of a reply of exactly the expected length; none for a reply of another length,
which is the host's ShortRead failure and not the block's (rule R110), and for a command without one
(log 14). -/
def decodeReply (c : Command) (bs : List Byte) : Option Reply :=
  match c, bs with
  | .getMovingState, [m] => some (.moving (movingReply m))
  | .getErrors, [e0, e1] => some (.errors (dec14 e0 e1))
  | .getScriptStatus, [b] => some (.running (runningReply b))
  | .getPosition, [p0, p1] => some (.position (dec16 p0 p1))
  | _, _ => none

end Sys2Proof.Machine
end

