-- ==== Sys2Proof/Safety.lean ====
section
/-! DEFINITION. The terms claims are stated in: the host's duties (rule R130), a complete run (rule
R131), the wire stream (rule R25), the effect of an accepted command (rule R80), the shape of a frame
(rules R47, R49), and the invariant every step keeps. No meaning of the machine uses any of them. -/

namespace Sys2Proof

/-- A byte is 7-bit-clean: bit 7 is 0 (rule R8). -/
def isClean (b : Byte) : Bool := decide (b.toNat ≤ 0x7F)

/-- A channel number the host may give (rule R130, first row). -/
def isChannel (ch : Byte) : Bool := decide (ch.toNat < Config.channels)

/-- The host's duties on the operand values of an operation (rule R130, the rows on operands). The block
checks none of them. -/
def Instr.hostDuties : Instr → Bool
  | .setTarget ch v => isChannel ch && fitsField v
  | .setSpeed ch v => isChannel ch && fitsField v
  | .setAccel ch v => isChannel ch && fitsField v
  | .setPwm ch on per => isChannel ch && fitsField on && fitsField per
  | .getPosition ch => isChannel ch
  | .getMovingState => true
  | .setMultipleTargets start vals =>
    decide (start.toNat + vals.length ≤ Config.channels) && vals.all fitsField
  | .getErrors => true
  | .goHome => true
  | .stopScript => true
  | .restartScript sub => isClean sub
  | .restartScriptParam sub val => isClean sub && fitsField val
  | .getScriptStatus => true
  | .init _ _ _ => true
  | .replyDone => true
  | .crc7 _ _ => true
  | .trail _ => true
  | .enc14 v => fitsField v
  | .dec14 lo hi => isClean lo && isClean hi
  | .dec16 _ _ => true

/-- The operand byte a command places in its frame unchanged (rule R49): `ch`, `sub` or `start`. -/
def Instr.passThrough? : Instr → Option Byte
  | .setTarget ch _ => some ch
  | .setSpeed ch _ => some ch
  | .setAccel ch _ => some ch
  | .setPwm ch _ _ => some ch
  | .getPosition ch => some ch
  | .getMovingState => none
  | .setMultipleTargets start _ => some start
  | .getErrors => none
  | .goHome => none
  | .stopScript => none
  | .restartScript sub => some sub
  | .restartScriptParam sub _ => some sub
  | .getScriptStatus => none
  | .init _ _ _ => none
  | .replyDone => none
  | .crc7 _ _ => none
  | .trail _ => none
  | .enc14 _ => none
  | .dec14 _ _ => none
  | .dec16 _ _ => none

/-- `P`, the preamble length: 1 + 2 * MODE (rule R51). -/
def preambleLength (f : Framing) : Nat := 1 + 2 * f.mode.bit.toNat

/-- Where the pass-through byte stands in the body: first, but behind the count byte of a batch
(rule R47). -/
def passThroughOffset : Command → Nat
  | .setMultipleTargets => 1
  | .setTarget | .setSpeed | .setAccel | .setPwm | .getPosition | .getMovingState | .getErrors
  | .goHome | .stopScript | .restartScript | .restartScriptParam | .getScriptStatus => 0

/-- `len(body)` of each operation, by the format table of rule R47; 0 for an operation with no frame. -/
def Instr.bodyLength : Instr → Nat
  | .setTarget _ _ => 3
  | .setSpeed _ _ => 3
  | .setAccel _ _ => 3
  | .setPwm _ _ _ => 5
  | .getPosition _ => 1
  | .getMovingState => 0
  | .setMultipleTargets _ vals => 2 + 2 * vals.length
  | .getErrors => 0
  | .goHome => 0
  | .stopScript => 0
  | .restartScript _ => 1
  | .restartScriptParam _ _ => 3
  | .getScriptStatus => 0
  | .init _ _ _ => 0
  | .replyDone => 0
  | .crc7 _ _ => 0
  | .trail _ => 0
  | .enc14 _ => 0
  | .dec14 _ _ => 0
  | .dec16 _ _ => 0

/-- The two bytes of a value field as arithmetic: the value modulo 128, and its next seven bits. -/
def valueBytes (v : Word) : List Byte :=
  [BitVec.ofNat 8 (v.toNat % 128), BitVec.ofNat 8 (v.toNat / 128 % 128)]

/-- No two commands have the same command byte in this mode: a premise of a claim about reading frames
back, never of the machine (rule R48: no constraint is imposed on the codes). -/
def codesDistinct (p : Params) (m : Mode) : Prop :=
  ∀ c c' : Command, codeByte p m c = codeByte p m c' → c = c'

namespace Machine

/-- The byte stream on the wire if the transport accepts every write in full (rule R25). -/
def State.wire (s : State) : List Byte := s.txlog.flatten

/-- A run is complete: every presented operation is applied, the frame buffer is empty and no reply is
owed (rule R131). -/
def State.complete (s : State) : Prop := s.port = [] ∧ s.fb = [] ∧ s.pending = 0

/-- The state with other values in the configuration registers. -/
def State.withFraming (s : State) (f : Framing) : State :=
  { s with mode := f.mode, devaddr := f.devaddr, csen := f.csen }

/-- What an accepted command does and leaves alone (rules R16, R80): one burst appended, the reply
length published, the buffer empty again, the rest unchanged. The accumulator is free to change only
when a trailer is computed (rule R18). -/
structure CommandEffect (s t : State) (burst : List Byte) (r : Fin 3) : Prop where
  txlog : t.txlog = s.txlog ++ [burst]
  pending : t.pending = r
  fb : t.fb = []
  ready : t.ready = s.ready
  framing : t.framing = s.framing
  port : t.port = s.port
  returned : t.returned = s.returned
  acc : s.csen = false → t.acc = s.acc

/-- The frames of a command in the four configurations of the spec's worked examples: compact, compact
with checksum, address 12, address 12 with checksum, at the default parameters (rule R48). -/
def workedFrames (c : Command) (body : List Byte) : List (List Byte) :=
  [Framing.mk .compact 0 false, Framing.mk .compact 0 true, Framing.mk .addressed 12 false,
    Framing.mk .addressed 12 true].map
    fun f => frame tableDefaults.poly f (tableDefaults.opc c) body

/-- The frame this block builds for a command code and a body in state `s` (rule R40). -/
def State.frameOf (s : State) (c : Command) (body : List Byte) : List Byte :=
  frame Config.poly s.framing (Config.opc c) body

/-- The burst is the frame of some command that the port can carry, under this configuration; if it
owes `r` reply bytes. -/
def IsCommandBurst (f : Framing) (r : Fin 3) (burst : List Byte) : Prop :=
  ∃ i c, i.wellFormed = true ∧ i.command? = some c ∧ encode Config.params f i = some burst ∧
    replyBytes c = r

/-- The invariant of the protocol engine: between operations the frame buffer is empty and the
accumulator 7-bit-clean (rules R18, R19); before creation nothing has been emitted and nothing is owed;
after it the first burst is the bare auto-baud byte (rules R17, R121), every later one is the frame of
some command under the latched configuration, and a pending reply is that of the last burst (rule R20). -/
structure State.Inv (s : State) : Prop where
  fb_empty : s.fb = []
  acc_clean : s.acc.toNat ≤ 0x7F
  before_creation : s.ready = false → s.txlog = [] ∧ s.pending = 0
  after_creation : s.ready = true → ∃ bursts, s.txlog = [Config.autobaud] :: bursts ∧
    ∀ b ∈ bursts, ∃ r, IsCommandBurst s.framing r b
  owed : s.pending ≠ 0 → ∃ b, s.txlog.getLast? = some b ∧ IsCommandBurst s.framing s.pending b

end Machine

end Sys2Proof
end

