-- ==== Sys2Proof/Certificates/Slice0/Obligations.lean ====
section
/-! DEFINITION. The statements for the provers. Each docstring names the rule or the part of the spec it
formalises; OBLIGATIONS.json lists them. Statements about the machine hold for any value of the open
parameters, which are opaque; worked examples name the default parameters they rest on. -/

open Sys2Proof Sys2Proof.Machine

/-! ### The CRC-7 generator -/

/-- R60: the bit step; the exclusive-or is conditional on the low bit, the shift is not; the result has
bit 7 clear; the worked example at POLY = 0x91. -/
def Obligations.CrcStepXorsOnLowBitThenShifts : Prop :=
  (∀ poly v : Byte,
    (crcStep poly v).toNat = (if v.toNat % 2 = 1 then (v ^^^ poly).toNat else v.toNat) / 2 ∧
    (crcStep poly v).toNat ≤ 0x7F) ∧
  crcStep 0x91#8 0x01 = 0x48 ∧ crcStep 0x91#8 0x48 = 0x24

/-- R61: the table's image has 256 entries, entry i is eight steps from i; the worked entries at
POLY = 0x91. -/
def Obligations.CrcTableHoldsEightStepsOfEachIndex : Prop :=
  (∀ poly : Byte, (crcRom poly).length = 256 ∧
    (∀ i : Byte, (crcRom poly)[i.toNat]? = some (Nat.iterate (crcStep poly) 8 i))) ∧
  (crcRom 0x91#8)[0x01]? = some 0x41 ∧ (crcRom 0x91#8)[0x83]? = some 0x1A

/-- R62, R63, R64: the checksum is the fold of the table read at (accumulator xor byte), over every list
and from every seed; the update is also eight bit steps; the empty list gives the seed back; the worked
examples at POLY = 0x91. -/
def Obligations.ChecksumFoldsTableReads : Prop :=
  (∀ (poly prev : Byte) (xs : List Byte),
    some (crc7 poly prev xs) =
      xs.foldlM (fun acc b => (crcRom poly)[(acc ^^^ b).toNat]?) prev) ∧
  (∀ poly acc b : Byte, crc7 poly acc [b] = Nat.iterate (crcStep poly) 8 (acc ^^^ b)) ∧
  (∀ poly prev : Byte, crc7 poly prev [] = prev) ∧
  (∀ poly : Byte, crc7 poly 0#8 [] = 0#8) ∧
  crcUpdate 0x91#8 0x1A 0x01 = 0x17 ∧ crc7 0x91#8 0#8 [0x83, 0x01] = 0x17

/-- R66: the trailer is the checksum from seed 0 reduced to its low seven bits; TRAIL([]) = 0; the worked
example at POLY = 0x91. -/
def Obligations.TrailerIsChecksumModulo128 : Prop :=
  (∀ (poly : Byte) (xs : List Byte),
    (trail poly xs).toNat = (crc7 poly 0#8 xs).toNat % 128 ∧ (trail poly xs).toNat ≤ 0x7F) ∧
  (∀ poly : Byte, trail poly [] = 0#8) ∧
  trail 0x91#8 [0x84, 0x00, 0x70, 0x2E] = 0x2B

/-- 40_crc7.md section 3, item 1, and the corner case of section 1 (inferences the spec marks as derived):
entries are 7-bit-clean, so is every checksum of a non-empty list, the trailer's mask changes nothing,
and entry 0 is 0 for every polynomial. -/
def Obligations.ChecksumOfAnyBytesIsSevenBitClean : Prop :=
  ∀ poly : Byte,
    (∀ i : Byte, (crcTable poly i).toNat ≤ 0x7F) ∧
    (∀ (prev b : Byte) (rest : List Byte), (crc7 poly prev (b :: rest)).toNat ≤ 0x7F) ∧
    (∀ xs : List Byte, trail poly xs = crc7 poly 0#8 xs) ∧
    crcTable poly 0#8 = 0#8

/-- 40_crc7.md section 3, item 2, and the equivalent form of the step in section 1 (derived): bit 0 of the
polynomial has no effect on any entry, on any checksum, or on any frame. -/
def Obligations.PolynomialBitZeroHasNoEffect : Prop :=
  ∀ poly : Byte,
    (∀ v : Byte, crcStep poly v = (v >>> 1) ^^^ (if v.toNat % 2 = 1 then poly >>> 1 else 0#8)) ∧
    (∀ i : Byte, crcTable (poly ^^^ 1#8) i = crcTable poly i) ∧
    (∀ (prev : Byte) (xs : List Byte), crc7 (poly ^^^ 1#8) prev xs = crc7 poly prev xs) ∧
    (∀ (f : Framing) (op : Byte) (body : List Byte),
      frame (poly ^^^ 1#8) f op body = frame poly f op body)

/-- 40_crc7.md section 3, item 3 (derived): step, table and checksum are linear over xor, and eight
entries determine the table. -/
def Obligations.ChecksumIsLinearOverXor : Prop :=
  (∀ poly a b : Byte, crcStep poly (a ^^^ b) = crcStep poly a ^^^ crcStep poly b) ∧
  (∀ poly a b : Byte, crcTable poly (a ^^^ b) = crcTable poly a ^^^ crcTable poly b) ∧
  (∀ (poly p q : Byte) (xs ys : List Byte), xs.length = ys.length →
    crc7 poly (p ^^^ q) (List.zipWith (· ^^^ ·) xs ys) = crc7 poly p xs ^^^ crc7 poly q ys) ∧
  (∀ poly poly' : Byte,
    (∀ k : Nat, k < 8 → crcTable poly (1#8 <<< k) = crcTable poly' (1#8 <<< k)) →
    ∀ i : Byte, crcTable poly i = crcTable poly' i)

/-- 40_crc7.md section 3, items 4 and 5 (derived): the checksum of a concatenation runs on, and the seed
can be folded into the first byte. -/
def Obligations.ChecksumContinuesOverConcatenation : Prop :=
  ∀ (poly prev : Byte) (xs ys : List Byte),
    crc7 poly prev (xs ++ ys) = crc7 poly (crc7 poly prev xs) ys ∧
    (∀ b rest, xs = b :: rest → crc7 poly prev xs = crc7 poly 0#8 ((prev ^^^ b) :: rest))

/-- 40_crc7.md section 3, item 6 (derived), for lists and for whole frames: running the checksum over the
bytes and their trailer gives 0. -/
def Obligations.BytesWithTrailerHaveZeroResidue : Prop :=
  (∀ (poly : Byte) (xs : List Byte), crc7 poly 0#8 (xs ++ [trail poly xs]) = 0#8) ∧
  (∀ (poly : Byte) (f : Framing) (op : Byte) (body : List Byte), f.csen = true →
    crc7 poly 0#8 (frame poly f op body) = 0#8)

/-- 40_crc7.md section 4 (derived, at POLY = 0x91): the update as combinational logic, and the facts about
the table the spec offers as tests. -/
def Obligations.DefaultPolynomialTableIsTheSpecsLogic : Prop :=
  (∀ x : Byte,
    (crcTable 0x91#8 x).getLsbD 0 = ((x.getLsbD 0 ^^ x.getLsbD 1) ^^ x.getLsbD 4) ∧
    (crcTable 0x91#8 x).getLsbD 1 = ((x.getLsbD 1 ^^ x.getLsbD 2) ^^ x.getLsbD 5) ∧
    (crcTable 0x91#8 x).getLsbD 2 = ((x.getLsbD 2 ^^ x.getLsbD 3) ^^ x.getLsbD 6) ∧
    (crcTable 0x91#8 x).getLsbD 3 = ((x.getLsbD 3 ^^ x.getLsbD 4) ^^ x.getLsbD 7) ∧
    (crcTable 0x91#8 x).getLsbD 4 = (x.getLsbD 1 ^^ x.getLsbD 5) ∧
    (crcTable 0x91#8 x).getLsbD 5 = (x.getLsbD 2 ^^ x.getLsbD 6) ∧
    (crcTable 0x91#8 x).getLsbD 6 = ((x.getLsbD 0 ^^ x.getLsbD 3) ^^ x.getLsbD 7) ∧
    (crcTable 0x91#8 x).getLsbD 7 = false) ∧
  (∀ a b : Byte, crcTable 0x91#8 a = crcTable 0x91#8 b ↔ a = b ∨ a = b ^^^ 0x91#8) ∧
  crcTable 0x91#8 0x91 = 0 ∧ crcTable 0x91#8 0xFF = 0x4F

/-- 40_crc7.md section 3, items 1 and 3, and section 4 (inferences the spec marks as derived, at
POLY = 0x91): flipping one bit anywhere in a byte list changes its trailer. By linearity the change is that
of the flipped bit run through the table; only indices 0 and 0x91 have entry 0, neither is a single bit, and
every entry is 7-bit-clean, so no later index is 0x91. The spec does not state the conclusion itself;
V-CRC-14 of 95_test_vectors.md is one instance. -/
def Obligations.SingleBitErrorChangesTheTrailer : Prop :=
  ∀ (before after : List Byte) (b : Byte) (k : Nat), k < 8 →
    trail 0x91#8 (before ++ (b ^^^ (1#8 <<< k)) :: after) ≠ trail 0x91#8 (before ++ b :: after)

/-! ### The codec -/

/-- R70: the two bytes of ENC14 as arithmetic, low byte first; the corner cases and the worked example. -/
def Obligations.Enc14SplitsIntoTwoSevens : Prop :=
  (∀ v : Word, enc14 v =
    [BitVec.ofNat 8 (v.toNat % 128), BitVec.ofNat 8 (v.toNat / 128 % 128)]) ∧
  enc14 0 = [0x00, 0x00] ∧ enc14 0x3FFF = [0x7F, 0x7F] ∧ enc14 0x7F = [0x7F, 0x00] ∧
  enc14 0x80 = [0x00, 0x01] ∧ enc14 6000 = [0x70, 0x2E]

/-- R75: both bytes of ENC14 are 7-bit-clean for every value. -/
def Obligations.Enc14BytesAreSevenBitClean : Prop :=
  ∀ (v : Word) (b : Byte), b ∈ enc14 v → b.toNat ≤ 0x7F

/-- R71, R73: both recombiners are exact for all 65536 pairs, so unmasked; they agree exactly where the
second byte is 0; on clean bytes DEC14 is a bitwise or of at most MAXENC; the corner cases and worked
examples. -/
def Obligations.RecombinersAreExactAndDiffer : Prop :=
  (∀ lo hi : Byte,
    (dec14 lo hi).toNat = lo.toNat + 128 * hi.toNat ∧ (dec14 lo hi).toNat ≤ 32895 ∧
    (dec16 lo hi).toNat = lo.toNat + 256 * hi.toNat ∧
    (dec14 lo hi = dec16 lo hi ↔ hi = 0#8) ∧
    (lo.toNat ≤ 0x7F → hi.toNat ≤ 0x7F →
      (dec14 lo hi).toNat ≤ 0x3FFF ∧
      dec14 lo hi = lo.setWidth 16 ||| (hi.setWidth 16 <<< 7))) ∧
  (∀ w : Word, ∃ lo hi : Byte, dec16 lo hi = w) ∧
  dec14 0 0 = 0 ∧ dec14 0x7F 0x7F = 0x3FFF ∧ dec14 0x80 0 = 0x80 ∧ dec14 0 0x01 = 0x80 ∧
  dec14 0x70 0x2E = 6000 ∧
  dec16 0xFF 0xFF = 0xFFFF ∧ dec16 0x00 0x80 = 0x8000 ∧ dec16 0x70 0x2E = 11888 ∧
  dec16 0x70 0x17 = 6000

/-- 41_codec.md, the round trip with the consequences the spec marks as derived: splitting and recombining
gives the value back up to MAXENC, the value modulo 2^14 above it; recombining and splitting gives clean
bytes back; ENC14 looks at no more than 14 bits; the example above MAXENC. -/
def Obligations.SplitAndRecombineRoundTrip : Prop :=
  (∀ v : Word, v.toNat ≤ 0x3FFF →
    ∃ lo hi, enc14 v = [lo, hi] ∧ dec14 lo hi = v) ∧
  (∀ v : Word, ∃ lo hi, enc14 v = [lo, hi] ∧ dec14 lo hi = v &&& 0x3FFF#16) ∧
  (∀ lo hi : Byte, lo.toNat ≤ 0x7F → hi.toNat ≤ 0x7F → enc14 (dec14 lo hi) = [lo, hi]) ∧
  (∀ v w : Word, enc14 v = enc14 w ↔ v.toNat % 16384 = w.toNat % 16384) ∧
  enc14 20000 = [0x20, 0x1C]

/-! ### The frame -/

/-- R41, R42: the two preambles, for every address and every code; the document's two examples. -/
def Obligations.PreambleForms : Prop :=
  (∀ (addr : DeviceAddress) (csen : Bool) (op : Byte),
    preamble ⟨.compact, addr, csen⟩ op = [op] ∧
    preamble ⟨.addressed, addr, csen⟩ op =
      [0xAA, BitVec.ofNat 8 addr.toNat, BitVec.ofNat 8 (op.toNat % 128)]) ∧
  (∀ (addr : DeviceAddress) (csen : Bool), preamble ⟨.compact, addr, csen⟩ 0x84 = [0x84]) ∧
  (∀ csen : Bool, preamble ⟨.addressed, 12, csen⟩ 0x84 = [0xAA, 12, 0x04])

/-- 30_encoding.md section 1: the frame is preamble, body, and, exactly when CSEN = 1, one trailer byte
over all of it, for every code and every body; and it is what the formatter's datapath leaves in the
buffer, changing nothing else but the accumulator, and that only for a trailer (log 8). -/
def Obligations.FrameIsPreambleBodyTrailer : Prop :=
  (∀ (poly : Byte) (f : Framing) (op : Byte) (body : List Byte),
    (f.csen = false → frame poly f op body = preamble f op ++ body) ∧
    (f.csen = true → frame poly f op body =
      preamble f op ++ body ++ [crc7 poly 0#8 (preamble f op ++ body) &&& 0x7F#8])) ∧
  (∀ (p : Params) (op : Byte) (body : List Byte) (s : State),
    ∃ a : Byte, s.assemble p op body = { s with fb := frame p.poly s.framing op body, acc := a } ∧
      (s.csen = false → a = s.acc))

/-- 30_encoding.md section 2, the frame length (derived): P + len(body) + CSEN for every operation that has
a frame, always 1 to 54 bytes, and both bounds are reached. -/
def Obligations.FrameLengthsByFormat : Prop :=
  (∀ (p : Params) (f : Framing) (i : Instr) (w : List Byte), i.wellFormed = true →
    encodeFrame p f i = some w →
    w.length = preambleLength f + i.bodyLength + (if f.csen then 1 else 0) ∧
    1 ≤ w.length ∧ w.length ≤ Config.fmax) ∧
  (∀ p : Params, ∃ w, encodeFrame p ⟨.compact, 0, false⟩ .goHome = some w ∧ w.length = 1) ∧
  (∀ (p : Params) (v : Word), ∃ w,
    encodeFrame p ⟨.addressed, 127, true⟩ (.setMultipleTargets 0 (List.replicate 24 v)) = some w ∧
    w.length = 54)

/-- R49: where a frame's bytes have their top bit: the first byte is the sync byte or the whole command
code; the pass-through byte stands unchanged; every other byte is 7-bit-clean whatever the operands; and
under the host's duties every byte but the first is. -/
def Obligations.FrameBytesKeepTheTopBitConvention : Prop :=
  ∀ (p : Params) (f : Framing) (i : Instr) (c : Command) (w : List Byte),
    i.wellFormed = true → i.command? = some c → encodeFrame p f i = some w →
    (f.mode = .addressed → w[0]? = some 0xAA#8) ∧
    (f.mode = .compact → w[0]? = some (p.opc c)) ∧
    (∀ b, i.passThrough? = some b → w[preambleLength f + passThroughOffset c]? = some b) ∧
    (∀ (k : Nat) (b : Byte), w[k]? = some b → k ≠ 0 →
      (i.passThrough? = none ∨ k ≠ preambleLength f + passThroughOffset c) → b.toNat ≤ 0x7F) ∧
    (i.hostDuties = true → ∀ (k : Nat) (b : Byte), w[k]? = some b → k ≠ 0 → b.toNat ≤ 0x7F)

/-! ### Decoding -/

/-- 30_encoding.md sections 2 and 3: for any parameters whose command bytes are distinct and any
configuration, decoding the encoding of a command, with anything after it, gives the command back with
every operand and the rest. The decoder is the model's receiver (log 7). -/
def Obligations.DecodeInvertsEncode : Prop :=
  ∀ (p : Params) (f : Framing) (i : Instr) (w rest : List Byte),
    codesDistinct p f.mode → i.wellFormed = true → i.fitsWire = true → i.isCommand = true →
    encode p f i = some w → decode p f (w ++ rest) = .ok (i, rest)

/-- 30_encoding.md sections 2 and 3, the other direction: whatever the decoder accepts begins with the
encoding of what it answers, for any parameters; the one exception is a count byte of 0, which no frame
carries (log 7). -/
def Obligations.DecodeAcceptsOnlyEncodings : Prop :=
  ∀ (p : Params) (f : Framing) (bs rest : List Byte) (i : Instr),
    decode p f bs = .ok (i, rest) →
    i.wellFormed = true ∧ i.fitsWire = true ∧
    ((∃ start, i = .setMultipleTargets start []) ∨
      ∃ w, encode p f i = some w ∧ bs = w ++ rest)

/-- 30_encoding.md section 3: words written out from the opcode table's encodings decode to the
operations they stand for, at the table's default codes. -/
def Obligations.OpcodeTableWordsDecode : Prop :=
  decodeTableWord 32 0x2E700284 = some (.setTarget 0x02 6000) ∧
  decodeTableWord 48 0x7F7F25400C8A = some (.setPwm 12 4800 16383) ∧
  decodeTableWord 16 0x1790 = some (.getPosition 23) ∧
  decodeTableWord 8 0xA1 = some .getErrors ∧
  decodeTableWord 32 0x076805A8 = some (.restartScriptParam 5 1000) ∧
  decodeTableWord 56 0x2314000003029F = some (.setMultipleTargets 3 [0, 4500]) ∧
  decodeTableWord 8 0x00 = none

/-! ### The step -/

/-- 10_state.md section 6 and 60_exceptions.md section 2: step runs the operation presented next, or the
operation a table word decodes to, and with nothing presented nothing happens. That operations are
presented through a list in the state is the model's choice (log 4); that a record of more than 24 values
is turned away is too (log 9). -/
def Obligations.StepRunsThePresentedOperation : Prop :=
  (∀ (s : State) (i : Instr) (rest : List Instr), s.port = i :: rest → i.wellFormed = true →
    step s = exec i { s with port := rest }) ∧
  (∀ (s : State) (n w : Nat) (i : Instr), decodeTableWord n w = some i → i.wellFormed = true →
    step (s.withFetchWord n w) = exec i { s with port := [] }) ∧
  (∀ s : State, s.port = [] → step s = .next s) ∧
  (∀ (s : State) (i : Instr) (rest : List Instr), s.port = i :: rest → i.wellFormed = false →
    step s = .refused .vectorTooLong)

/-! ### The commands -/

/-- R83, R84: GO_HOME and STOP_SCRIPT emit their bare code and owe no reply. -/
def Obligations.HomeAndStopScriptSendTheirCode : Prop :=
  (∀ s : State, s.ready = true → s.pending = 0 →
    (∃ t, exec .goHome s = .next t ∧ CommandEffect s t (s.frameOf .goHome []) 0) ∧
    (∃ t, exec .stopScript s = .next t ∧ CommandEffect s t (s.frameOf .stopScript []) 0)) ∧
  workedFrames .goHome [] = [[0xA2], [0xA2, 0x49], [0xAA, 0x0C, 0x22], [0xAA, 0x0C, 0x22, 0x2A]] ∧
  workedFrames .stopScript [] =
    [[0xA4], [0xA4, 0x7C], [0xAA, 0x0C, 0x24], [0xAA, 0x0C, 0x24, 0x1F]]

/-- R81, R82, R87: the three queries emit their bare code and owe 1, 2 and 1 reply bytes; how the host
decodes those bytes. -/
def Obligations.DeviceQueriesSendCodeAndOweReply : Prop :=
  (∀ s : State, s.ready = true → s.pending = 0 →
    (∃ t, exec .getMovingState s = .next t ∧ CommandEffect s t (s.frameOf .getMovingState []) 1) ∧
    (∃ t, exec .getErrors s = .next t ∧ CommandEffect s t (s.frameOf .getErrors []) 2) ∧
    (∃ t, exec .getScriptStatus s = .next t ∧
      CommandEffect s t (s.frameOf .getScriptStatus []) 1)) ∧
  (∀ m : Byte, decodeReply .getMovingState [m] = some (.moving (decide (m ≠ 0#8))) ∧
    decodeReply .getScriptStatus [m] = some (.running (decide (m = 0#8)))) ∧
  (∀ e0 e1 : Byte, decodeReply .getErrors [e0, e1] =
    some (.errors (BitVec.ofNat 16 (e0.toNat + 128 * e1.toNat)))) ∧
  workedFrames .getMovingState [] =
    [[0x93], [0x93, 0x13], [0xAA, 0x0C, 0x13], [0xAA, 0x0C, 0x13, 0x70]] ∧
  workedFrames .getErrors [] =
    [[0xA1], [0xA1, 0x1B], [0xAA, 0x0C, 0x21], [0xAA, 0x0C, 0x21, 0x78]] ∧
  workedFrames .getScriptStatus [] =
    [[0xAE], [0xAE, 0x23], [0xAA, 0x0C, 0x2E], [0xAA, 0x0C, 0x2E, 0x40]]

/-- R85, R86: the two script restarts: the subroutine byte unchanged, all 8 bits, then the value. -/
def Obligations.RestartScriptSendsSubroutineAndValue : Prop :=
  (∀ (s : State) (sub : Byte) (val : Word), s.ready = true → s.pending = 0 →
    (∃ t, exec (.restartScript sub) s = .next t ∧
      CommandEffect s t (s.frameOf .restartScript [sub]) 0) ∧
    (∃ t, exec (.restartScriptParam sub val) s = .next t ∧
      CommandEffect s t (s.frameOf .restartScriptParam (sub :: valueBytes val)) 0)) ∧
  workedFrames .restartScript [5] =
    [[0xA7, 0x05], [0xA7, 0x05, 0x0C], [0xAA, 0x0C, 0x27, 0x05], [0xAA, 0x0C, 0x27, 0x05, 0x68]] ∧
  workedFrames .restartScriptParam (5 :: valueBytes 1000) =
    [[0xA8, 0x05, 0x68, 0x07], [0xA8, 0x05, 0x68, 0x07, 0x5D],
      [0xAA, 0x0C, 0x28, 0x05, 0x68, 0x07], [0xAA, 0x0C, 0x28, 0x05, 0x68, 0x07, 0x54]]

/-- R91, R92, R93: target, speed and acceleration: the channel byte unchanged, whatever its value, then the
value, of which 14 bits are sent; no reply. -/
def Obligations.ChannelValueCommandsSendChannelAndValue : Prop :=
  (∀ (s : State) (ch : Byte) (v : Word), s.ready = true → s.pending = 0 →
    (∃ t, exec (.setTarget ch v) s = .next t ∧
      CommandEffect s t (s.frameOf .setTarget (ch :: valueBytes v)) 0) ∧
    (∃ t, exec (.setSpeed ch v) s = .next t ∧
      CommandEffect s t (s.frameOf .setSpeed (ch :: valueBytes v)) 0) ∧
    (∃ t, exec (.setAccel ch v) s = .next t ∧
      CommandEffect s t (s.frameOf .setAccel (ch :: valueBytes v)) 0)) ∧
  workedFrames .setTarget (0 :: valueBytes 6000) =
    [[0x84, 0x00, 0x70, 0x2E], [0x84, 0x00, 0x70, 0x2E, 0x2B],
      [0xAA, 0x0C, 0x04, 0x00, 0x70, 0x2E], [0xAA, 0x0C, 0x04, 0x00, 0x70, 0x2E, 0x22]] ∧
  workedFrames .setSpeed (1 :: valueBytes 140) =
    [[0x87, 0x01, 0x0C, 0x01], [0x87, 0x01, 0x0C, 0x01, 0x3F],
      [0xAA, 0x0C, 0x07, 0x01, 0x0C, 0x01], [0xAA, 0x0C, 0x07, 0x01, 0x0C, 0x01, 0x36]] ∧
  workedFrames .setAccel (5 :: valueBytes 4) =
    [[0x89, 0x05, 0x04, 0x00], [0x89, 0x05, 0x04, 0x00, 0x1A],
      [0xAA, 0x0C, 0x09, 0x05, 0x04, 0x00], [0xAA, 0x0C, 0x09, 0x05, 0x04, 0x00, 0x13]]

/-- R94: SET_PWM sends the channel byte, the on-time pair, then the period pair; no relation between them
is checked. -/
def Obligations.SetPwmSendsChannelOnTimePeriod : Prop :=
  (∀ (s : State) (ch : Byte) (on per : Word), s.ready = true → s.pending = 0 →
    ∃ t, exec (.setPwm ch on per) s = .next t ∧
      CommandEffect s t (s.frameOf .setPwm (ch :: (valueBytes on ++ valueBytes per))) 0) ∧
  workedFrames .setPwm (12 :: (valueBytes 4800 ++ valueBytes 16383)) =
    [[0x8A, 0x0C, 0x40, 0x25, 0x7F, 0x7F], [0x8A, 0x0C, 0x40, 0x25, 0x7F, 0x7F, 0x08],
      [0xAA, 0x0C, 0x0A, 0x0C, 0x40, 0x25, 0x7F, 0x7F],
      [0xAA, 0x0C, 0x0A, 0x0C, 0x40, 0x25, 0x7F, 0x7F, 0x23]]

/-- R95: GET_POSITION sends the channel byte and owes 2 reply bytes, which the host decodes as a plain
little-endian value. -/
def Obligations.GetPositionSendsChannelAndOwesTwoBytes : Prop :=
  (∀ (s : State) (ch : Byte), s.ready = true → s.pending = 0 →
    ∃ t, exec (.getPosition ch) s = .next t ∧
      CommandEffect s t (s.frameOf .getPosition [ch]) 2) ∧
  (∀ p0 p1 : Byte, decodeReply .getPosition [p0, p1] =
    some (.position (BitVec.ofNat 16 (p0.toNat + 256 * p1.toNat)))) ∧
  workedFrames .getPosition [0] =
    [[0x90, 0x00], [0x90, 0x00, 0x65], [0xAA, 0x0C, 0x10, 0x00], [0xAA, 0x0C, 0x10, 0x00, 0x01]]

/-- R100: a batch of 1 to 24 values is one frame: count, start, then the values in order; the start
channel and the sum of start and count are not checked. -/
def Obligations.BatchSendsCountStartAndValuesInOrder : Prop :=
  (∀ (s : State) (start : Byte) (vals : List Word), s.ready = true → s.pending = 0 →
    1 ≤ vals.length → vals.length ≤ 24 →
    ∃ t, exec (.setMultipleTargets start vals) s = .next t ∧
      CommandEffect s t (s.frameOf .setMultipleTargets
        (BitVec.ofNat 8 vals.length :: start :: (vals.map valueBytes).flatten)) 0) ∧
  workedFrames .setMultipleTargets
      (3 :: 0 :: ([6000, 4000, 8000].map valueBytes).flatten) =
    [[0x9F, 0x03, 0x00, 0x70, 0x2E, 0x20, 0x1F, 0x40, 0x3E],
      [0x9F, 0x03, 0x00, 0x70, 0x2E, 0x20, 0x1F, 0x40, 0x3E, 0x01],
      [0xAA, 0x0C, 0x1F, 0x03, 0x00, 0x70, 0x2E, 0x20, 0x1F, 0x40, 0x3E],
      [0xAA, 0x0C, 0x1F, 0x03, 0x00, 0x70, 0x2E, 0x20, 0x1F, 0x40, 0x3E, 0x68]]

/-- R101: the empty batch is accepted under the same conditions as any command and changes nothing. -/
def Obligations.EmptyBatchIsANoOpSuccess : Prop :=
  ∀ (s : State) (start : Byte),
    (s.ready = true → s.pending = 0 → exec (.setMultipleTargets start []) s = .next s) ∧
    (s.ready = false → exec (.setMultipleTargets start []) s = .refused .notCreated) ∧
    (s.ready = true → s.pending ≠ 0 →
      exec (.setMultipleTargets start []) s = .refused .replyOutstanding)

/-- 30_encoding.md sections 1 and 2 (a refinement, so derived): what the datapath of an accepted command
emits is what the encoder, written from the opcode table's bit patterns, says; the reply length is the
table's. -/
def Obligations.AcceptedCommandEmitsItsTableEncoding : Prop :=
  ∀ (s : State) (i : Instr) (c : Command) (w : List Byte),
    i.wellFormed = true → i.command? = some c → encode Config.params s.framing i = some w →
    s.ready = true → s.pending = 0 →
    ∃ t, exec i s = .next t ∧ CommandEffect s t w (replyBytes c)

/-- R45: with CSEN = 1 the one burst of every accepted command but the empty batch ends in a trailer,
which is the masked checksum of every byte before it, preamble included; with CSEN = 0 the burst is the
preamble and the body alone. INIT's byte gets no trailer, whatever its operands. -/
def Obligations.TrailerCoversEveryByteOfEveryCommand : Prop :=
  (∀ (s t : State) (i : Instr) (c : Command), i.wellFormed = true → i.command? = some c →
    (∀ start, i ≠ .setMultipleTargets start []) → exec i s = .next t →
    (s.csen = true → ∃ g, t.txlog = s.txlog ++ [g ++ [crc7 Config.poly 0#8 g &&& 0x7F#8]] ∧
      g.length = preambleLength s.framing + i.bodyLength ∧
      g.take (preambleLength s.framing) = preamble s.framing (Config.opc c)) ∧
    (s.csen = false → ∃ g, t.txlog = s.txlog ++ [g] ∧
      g.length = preambleLength s.framing + i.bodyLength ∧
      g.take (preambleLength s.framing) = preamble s.framing (Config.opc c))) ∧
  (∀ (s t : State) (addr : DeviceAddress) (mode : Mode) (crc : Bool),
    exec (.init addr mode crc) s = .next t → t.txlog = s.txlog ++ [[Config.autobaud]])

/-- 10_state.md section 4 (log 8, DEDUCED: nothing clears the accumulator after a trailer): after an
accepted command with CSEN = 1 the accumulator holds the checksum of the bytes before the trailer. -/
def Obligations.AccumulatorHoldsTheLastTrailerFold : Prop :=
  ∀ (s t : State) (i : Instr) (c : Command), i.command? = some c →
    (∀ start, i ≠ .setMultipleTargets start []) → s.csen = true → exec i s = .next t →
    ∃ g k, t.txlog = s.txlog ++ [g ++ [k]] ∧ t.acc = crc7 Config.poly 0#8 g ∧ t.acc = k

/-! ### Creation, the host event, the primitives -/

/-- R121: INIT from a block that is not created latches the three values, emits the bare auto-baud byte
and sets READY, for every address, mode and switch, and changes nothing else; on a created block it is
refused; the worked example at the default AUTOBAUD. -/
def Obligations.InitLatchesConfigurationAndSendsAutobaud : Prop :=
  (∀ (s : State) (addr : DeviceAddress) (mode : Mode) (crc : Bool),
    (s.ready = false → exec (.init addr mode crc) s = .next
      { s with
        ready := true
        devaddr := addr
        mode := mode
        csen := crc
        txlog := s.txlog ++ [[Config.autobaud]] }) ∧
    (s.ready = true → exec (.init addr mode crc) s = .refused .alreadyCreated)) ∧
  (∀ p : Params, p.autobaud = 0xAA → ∃ t, createWith p 12 .addressed true State.reset = .next t ∧
    t.devaddr = 12 ∧ t.mode = .addressed ∧ t.csen = true ∧ t.ready = true ∧
    t.txlog = [[0xAA]] ∧ t.pending = 0)

/-- R124: an accepted command publishes its reply length; REPLY_DONE sets it to 0 and changes nothing
else, and nothing at all when no reply is owed; it is refused before creation; while a reply is owed every
command is refused. -/
def Obligations.ReplyMustBeConsumedBeforeTheNextCommand : Prop :=
  (∀ (s t : State) (i : Instr) (c : Command), i.command? = some c → exec i s = .next t →
    t.pending = replyBytes c) ∧
  (∀ s : State, s.ready = true → exec .replyDone s = .next { s with pending := 0 }) ∧
  (∀ s : State, s.ready = true → s.pending = 0 → exec .replyDone s = .next s) ∧
  (∀ s : State, s.ready = false → exec .replyDone s = .refused .notCreated) ∧
  (∀ (s : State) (i : Instr), i.isCommand = true → s.ready = true → s.pending ≠ 0 →
    exec i s = .refused .replyOutstanding)

/-- R63, R66, R65: CRC7 and TRAIL complete in every state, created or not, hand back the value of the
pure function, and change nothing else, the accumulator included. That a value is handed back through a
list in the state is the model's choice (log 5). -/
def Obligations.ChecksumPrimitivesCompleteInEveryState : Prop :=
  ∀ (s : State) (prev : Byte) (xs : List Byte),
    exec (.crc7 prev xs) s = .next { s with returned := s.returned ++
      [.byte (xs.foldl (fun acc b => crcTable Config.poly (acc ^^^ b)) prev)] } ∧
    exec (.trail xs) s = .next { s with returned := s.returned ++
      [.byte (BitVec.ofNat 8
        ((xs.foldl (fun acc b => crcTable Config.poly (acc ^^^ b)) 0#8).toNat % 128))] }

/-- 41_codec.md: ENC14, DEC14 and DEC16 complete in every state with the arithmetic values of the rules and
change nothing else. That a value is handed back through a list in the state is the model's choice
(log 5). -/
def Obligations.CodecPrimitivesCompleteInEveryState : Prop :=
  ∀ (s : State) (v : Word) (lo hi : Byte),
    exec (.enc14 v) s = .next { s with returned := s.returned ++ [.bytes (valueBytes v)] } ∧
    exec (.dec14 lo hi) s = .next { s with returned := s.returned ++
      [.word (BitVec.ofNat 16 (lo.toNat + 128 * hi.toNat))] } ∧
    exec (.dec16 lo hi) s = .next { s with returned := s.returned ++
      [.word (BitVec.ofNat 16 (lo.toNat + 256 * hi.toNat))] }

/-- R111: an operation is refused in exactly the three conditions, each with its reason, and never
faults; so the primitives are never refused. -/
def Obligations.RefusalsAreExactlyTheThreeConditions : Prop :=
  ∀ (s : State) (i : Instr),
    ((i.isCommand = true ∨ i = .replyDone) → s.ready = false → exec i s = .refused .notCreated) ∧
    (i.isCommand = true → s.ready = true → s.pending ≠ 0 → exec i s = .refused .replyOutstanding) ∧
    (∀ addr mode crc, i = .init addr mode crc → s.ready = true →
      exec i s = .refused .alreadyCreated) ∧
    ((∃ t, exec i s = .next t) ∨
      ((i.isCommand = true ∨ i = .replyDone) ∧ s.ready = false) ∨
      (i.isCommand = true ∧ s.ready = true ∧ s.pending ≠ 0) ∨
      (∃ addr mode crc, i = .init addr mode crc ∧ s.ready = true))

/-! ### The whole machine -/

/-- R120: what reset leaves; and the values the configuration registers hold before INIT are never read:
whatever they are, every operation on a block that is not created has the same outcome but for carrying
them along, and INIT erases them. -/
def Obligations.ResetLeavesTheBlockUncreated : Prop :=
  (State.reset.ready = false ∧ State.reset.acc = 0#8 ∧ State.reset.fb = [] ∧
    State.reset.txlog = [] ∧ State.reset.pending = 0) ∧
  (∀ (s : State) (f : Framing) (i : Instr), s.ready = false →
    (∃ why, exec i s = .refused why ∧ exec i (s.withFraming f) = .refused why) ∨
    (∃ t, exec i s = .next t ∧ exec i (s.withFraming f) = .next (t.withFraming f) ∧
      t.framing = s.framing) ∨
    (∃ addr mode crc t, i = .init addr mode crc ∧ exec i s = .next t ∧
      exec i (s.withFraming f) = .next t))

/-- R16: after creation no step changes the configuration or un-creates the block; no command changes it
in any state; INIT can latch every combination; and a frame is built from whatever configuration the
registers hold when its command runs. -/
def Obligations.ConfigurationIsFixedAfterCreation : Prop :=
  (∀ s t : State, s.ready = true → step s = .next t → t.ready = true ∧ t.framing = s.framing) ∧
  (∀ (s t : State) (i : Instr), i.isCommand = true → exec i s = .next t →
    t.framing = s.framing ∧ t.ready = s.ready) ∧
  (∀ (s : State) (f : Framing), s.ready = false →
    ∃ t, exec (.init f.devaddr f.mode f.csen) s = .next t ∧ t.framing = f) ∧
  (∀ (s : State) (f : Framing) (i : Instr) (c : Command) (w : List Byte), i.wellFormed = true →
    i.command? = some c → encode Config.params f i = some w → s.ready = true → s.pending = 0 →
    ∃ t, exec i (s.withFraming f) = .next t ∧ t.txlog = s.txlog ++ [w])

/-- 20_memory.md sections 3 and 5: a step hands over at most one burst, which is not empty and stands
after all earlier ones, and the frame buffer is empty again. That a step takes the first operation, if
there is one, from a list of presented operations in the state is the model's choice (log 4). -/
def Obligations.EachStepAppendsAtMostOneBurst : Prop :=
  ∀ s t : State, step s = .next t → s.fb = [] →
    t.fb = [] ∧ t.port = s.port.tail ∧
    (t.txlog = s.txlog ∨ ∃ b : List Byte, b ≠ [] ∧ t.txlog = s.txlog ++ [b])

/-- R17: READY is 0 from reset and 1 for good after INIT, and is what makes the auto-baud byte precede
every frame: a command on a block that is not created is refused; a step from such a block emits nothing,
or is INIT's, emits the auto-baud byte alone and sets READY. -/
def Obligations.AutobaudByteComesBeforeAnyFrame : Prop :=
  State.reset.ready = false ∧
  (∀ (s : State) (i : Instr), i.isCommand = true → s.ready = false →
    exec i s = .refused .notCreated) ∧
  (∀ s t : State, s.ready = true → step s = .next t → t.ready = true) ∧
  ∀ s t : State, s.ready = false → step s = .next t →
    (t.ready = false ∧ t.txlog = s.txlog) ∨
    (t.ready = true ∧ t.txlog = s.txlog ++ [[Config.autobaud]] ∧
      ∃ addr mode crc, s.port.head? = some (.init addr mode crc) ∧ t.framing = ⟨mode, addr, crc⟩)

/-- The protocol invariant holds after reset (rules R17, R18, R19, R20, R120). -/
def Obligations.ResetMeetsTheProtocolInvariant : Prop := State.reset.Inv

/-- Every step keeps the protocol invariant, from every state that has it: the log is the auto-baud byte
and then frames of well-formed commands under the latched configuration, a pending reply is the last
burst's, the buffer is empty (10_state.md sections 3 to 5; the invariant is the model's, Safety.lean). -/
def Obligations.EveryStepKeepsTheProtocolInvariant : Prop :=
  ∀ s t : State, s.Inv → step s = .next t → t.Inv

/-- 10_state.md section 6 (an inference the spec marks as derived): what an operation emits and whether it
is refused depend on READY, PENDING, the configuration and the operands alone, not on the accumulator,
the buffer, the log or earlier results. -/
def Obligations.CommandBytesIgnoreAllOtherState : Prop :=
  ∀ (s s' : State) (i : Instr), s.ready = s'.ready → s.pending = s'.pending →
    s.framing = s'.framing →
    (∃ why, exec i s = .refused why ∧ exec i s' = .refused why) ∨
    (∃ t t' new, exec i s = .next t ∧ exec i s' = .next t' ∧
      t.txlog = s.txlog ++ new ∧ t'.txlog = s'.txlog ++ new ∧
      t.pending = t'.pending ∧ t.ready = t'.ready ∧ t.framing = t'.framing)

/-- 10_state.md section 3: in compact mode DEVADDR has no effect on any output: two created blocks that
differ only in it emit the same bytes and refuse the same operations, in every step. -/
def Obligations.CompactModeIgnoresTheDeviceAddress : Prop :=
  ∀ (s : State) (addr : DeviceAddress), s.mode = .compact → s.ready = true →
    (∃ t, step s = .next t ∧ step { s with devaddr := addr } = .next { t with devaddr := addr }) ∨
    (∃ why, step s = .refused why ∧ step { s with devaddr := addr } = .refused why)

/-- 20_memory.md section 5, (a) and (b): a created block to which the host presents commands that expect
no reply emits, in as many steps, exactly their encodings in that order, each as one burst. -/
def Obligations.PresentedCommandsAreEmittedInOrder : Prop :=
  ∀ (s : State), s.ready = true → s.pending = 0 →
    (∀ i ∈ s.port, i.wellFormed = true ∧ ∃ c, i.command? = some c ∧ replyBytes c = 0) →
    ∃ t, Host.Core.run Sys2Proof.core s.port.length s = .next t ∧
      t.txlog = s.txlog ++ s.port.filterMap (encode Config.params s.framing) ∧
      t.port = [] ∧ t.pending = 0 ∧ t.framing = s.framing
end

