-- ==== Sys2Proof/Laws/State.lean ====
section
/-! SUPPORT. One lemma per field of the state for each update of Machine/Ops.lean, all true by
unfolding, so that no later proof opens a record update. -/

namespace Sys2Proof.Machine

@[simp] theorem State.loadFb_ready (s : State) (xs : List Byte) : (s.loadFb xs).ready = s.ready := rfl
@[simp] theorem State.loadFb_devaddr (s : State) (xs : List Byte) : (s.loadFb xs).devaddr = s.devaddr := rfl
@[simp] theorem State.loadFb_mode (s : State) (xs : List Byte) : (s.loadFb xs).mode = s.mode := rfl
@[simp] theorem State.loadFb_csen (s : State) (xs : List Byte) : (s.loadFb xs).csen = s.csen := rfl
@[simp] theorem State.loadFb_acc (s : State) (xs : List Byte) : (s.loadFb xs).acc = s.acc := rfl
@[simp] theorem State.loadFb_fb (s : State) (xs : List Byte) : (s.loadFb xs).fb = xs := rfl
@[simp] theorem State.loadFb_txlog (s : State) (xs : List Byte) : (s.loadFb xs).txlog = s.txlog := rfl
@[simp] theorem State.loadFb_pending (s : State) (xs : List Byte) : (s.loadFb xs).pending = s.pending := rfl
@[simp] theorem State.loadFb_port (s : State) (xs : List Byte) : (s.loadFb xs).port = s.port := rfl
@[simp] theorem State.loadFb_returned (s : State) (xs : List Byte) : (s.loadFb xs).returned = s.returned := rfl
@[simp] theorem State.loadFb_framing (s : State) (xs : List Byte) : (s.loadFb xs).framing = s.framing := rfl

@[simp] theorem State.appendFb_ready (s : State) (b : Byte) : (s.appendFb b).ready = s.ready := rfl
@[simp] theorem State.appendFb_devaddr (s : State) (b : Byte) : (s.appendFb b).devaddr = s.devaddr := rfl
@[simp] theorem State.appendFb_mode (s : State) (b : Byte) : (s.appendFb b).mode = s.mode := rfl
@[simp] theorem State.appendFb_csen (s : State) (b : Byte) : (s.appendFb b).csen = s.csen := rfl
@[simp] theorem State.appendFb_acc (s : State) (b : Byte) : (s.appendFb b).acc = s.acc := rfl
@[simp] theorem State.appendFb_fb (s : State) (b : Byte) : (s.appendFb b).fb = s.fb ++ [b] := rfl
@[simp] theorem State.appendFb_txlog (s : State) (b : Byte) : (s.appendFb b).txlog = s.txlog := rfl
@[simp] theorem State.appendFb_pending (s : State) (b : Byte) : (s.appendFb b).pending = s.pending := rfl
@[simp] theorem State.appendFb_port (s : State) (b : Byte) : (s.appendFb b).port = s.port := rfl
@[simp] theorem State.appendFb_returned (s : State) (b : Byte) : (s.appendFb b).returned = s.returned := rfl
@[simp] theorem State.appendFb_framing (s : State) (b : Byte) : (s.appendFb b).framing = s.framing := rfl

@[simp] theorem State.seedAcc_ready (s : State) : (s.seedAcc).ready = s.ready := rfl
@[simp] theorem State.seedAcc_devaddr (s : State) : (s.seedAcc).devaddr = s.devaddr := rfl
@[simp] theorem State.seedAcc_mode (s : State) : (s.seedAcc).mode = s.mode := rfl
@[simp] theorem State.seedAcc_csen (s : State) : (s.seedAcc).csen = s.csen := rfl
@[simp] theorem State.seedAcc_acc (s : State) : (s.seedAcc).acc = 0#8 := rfl
@[simp] theorem State.seedAcc_fb (s : State) : (s.seedAcc).fb = s.fb := rfl
@[simp] theorem State.seedAcc_txlog (s : State) : (s.seedAcc).txlog = s.txlog := rfl
@[simp] theorem State.seedAcc_pending (s : State) : (s.seedAcc).pending = s.pending := rfl
@[simp] theorem State.seedAcc_port (s : State) : (s.seedAcc).port = s.port := rfl
@[simp] theorem State.seedAcc_returned (s : State) : (s.seedAcc).returned = s.returned := rfl
@[simp] theorem State.seedAcc_framing (s : State) : (s.seedAcc).framing = s.framing := rfl

@[simp] theorem State.feedAcc_ready (poly : Byte) (s : State) (b : Byte) : (State.feedAcc poly s b).ready = s.ready := rfl
@[simp] theorem State.feedAcc_devaddr (poly : Byte) (s : State) (b : Byte) : (State.feedAcc poly s b).devaddr = s.devaddr := rfl
@[simp] theorem State.feedAcc_mode (poly : Byte) (s : State) (b : Byte) : (State.feedAcc poly s b).mode = s.mode := rfl
@[simp] theorem State.feedAcc_csen (poly : Byte) (s : State) (b : Byte) : (State.feedAcc poly s b).csen = s.csen := rfl
@[simp] theorem State.feedAcc_acc (poly : Byte) (s : State) (b : Byte) : (State.feedAcc poly s b).acc = crcUpdate poly s.acc b := rfl
@[simp] theorem State.feedAcc_fb (poly : Byte) (s : State) (b : Byte) : (State.feedAcc poly s b).fb = s.fb := rfl
@[simp] theorem State.feedAcc_txlog (poly : Byte) (s : State) (b : Byte) : (State.feedAcc poly s b).txlog = s.txlog := rfl
@[simp] theorem State.feedAcc_pending (poly : Byte) (s : State) (b : Byte) : (State.feedAcc poly s b).pending = s.pending := rfl
@[simp] theorem State.feedAcc_port (poly : Byte) (s : State) (b : Byte) : (State.feedAcc poly s b).port = s.port := rfl
@[simp] theorem State.feedAcc_returned (poly : Byte) (s : State) (b : Byte) : (State.feedAcc poly s b).returned = s.returned := rfl
@[simp] theorem State.feedAcc_framing (poly : Byte) (s : State) (b : Byte) : (State.feedAcc poly s b).framing = s.framing := rfl

@[simp] theorem State.txEmit_ready (s : State) (xs : List Byte) : (s.txEmit xs).ready = s.ready := rfl
@[simp] theorem State.txEmit_devaddr (s : State) (xs : List Byte) : (s.txEmit xs).devaddr = s.devaddr := rfl
@[simp] theorem State.txEmit_mode (s : State) (xs : List Byte) : (s.txEmit xs).mode = s.mode := rfl
@[simp] theorem State.txEmit_csen (s : State) (xs : List Byte) : (s.txEmit xs).csen = s.csen := rfl
@[simp] theorem State.txEmit_acc (s : State) (xs : List Byte) : (s.txEmit xs).acc = s.acc := rfl
@[simp] theorem State.txEmit_fb (s : State) (xs : List Byte) : (s.txEmit xs).fb = s.fb := rfl
@[simp] theorem State.txEmit_txlog (s : State) (xs : List Byte) : (s.txEmit xs).txlog = s.txlog ++ [xs] := rfl
@[simp] theorem State.txEmit_pending (s : State) (xs : List Byte) : (s.txEmit xs).pending = s.pending := rfl
@[simp] theorem State.txEmit_port (s : State) (xs : List Byte) : (s.txEmit xs).port = s.port := rfl
@[simp] theorem State.txEmit_returned (s : State) (xs : List Byte) : (s.txEmit xs).returned = s.returned := rfl
@[simp] theorem State.txEmit_framing (s : State) (xs : List Byte) : (s.txEmit xs).framing = s.framing := rfl

@[simp] theorem State.setPending_ready (s : State) (r : Fin 3) : (s.setPending r).ready = s.ready := rfl
@[simp] theorem State.setPending_devaddr (s : State) (r : Fin 3) : (s.setPending r).devaddr = s.devaddr := rfl
@[simp] theorem State.setPending_mode (s : State) (r : Fin 3) : (s.setPending r).mode = s.mode := rfl
@[simp] theorem State.setPending_csen (s : State) (r : Fin 3) : (s.setPending r).csen = s.csen := rfl
@[simp] theorem State.setPending_acc (s : State) (r : Fin 3) : (s.setPending r).acc = s.acc := rfl
@[simp] theorem State.setPending_fb (s : State) (r : Fin 3) : (s.setPending r).fb = s.fb := rfl
@[simp] theorem State.setPending_txlog (s : State) (r : Fin 3) : (s.setPending r).txlog = s.txlog := rfl
@[simp] theorem State.setPending_pending (s : State) (r : Fin 3) : (s.setPending r).pending = r := rfl
@[simp] theorem State.setPending_port (s : State) (r : Fin 3) : (s.setPending r).port = s.port := rfl
@[simp] theorem State.setPending_returned (s : State) (r : Fin 3) : (s.setPending r).returned = s.returned := rfl
@[simp] theorem State.setPending_framing (s : State) (r : Fin 3) : (s.setPending r).framing = s.framing := rfl

@[simp] theorem State.latch_ready (s : State) (a : DeviceAddress) (m : Mode) (c : Bool) : (s.latch a m c).ready = s.ready := rfl
@[simp] theorem State.latch_devaddr (s : State) (a : DeviceAddress) (m : Mode) (c : Bool) : (s.latch a m c).devaddr = a := rfl
@[simp] theorem State.latch_mode (s : State) (a : DeviceAddress) (m : Mode) (c : Bool) : (s.latch a m c).mode = m := rfl
@[simp] theorem State.latch_csen (s : State) (a : DeviceAddress) (m : Mode) (c : Bool) : (s.latch a m c).csen = c := rfl
@[simp] theorem State.latch_acc (s : State) (a : DeviceAddress) (m : Mode) (c : Bool) : (s.latch a m c).acc = s.acc := rfl
@[simp] theorem State.latch_fb (s : State) (a : DeviceAddress) (m : Mode) (c : Bool) : (s.latch a m c).fb = s.fb := rfl
@[simp] theorem State.latch_txlog (s : State) (a : DeviceAddress) (m : Mode) (c : Bool) : (s.latch a m c).txlog = s.txlog := rfl
@[simp] theorem State.latch_pending (s : State) (a : DeviceAddress) (m : Mode) (c : Bool) : (s.latch a m c).pending = s.pending := rfl
@[simp] theorem State.latch_port (s : State) (a : DeviceAddress) (m : Mode) (c : Bool) : (s.latch a m c).port = s.port := rfl
@[simp] theorem State.latch_returned (s : State) (a : DeviceAddress) (m : Mode) (c : Bool) : (s.latch a m c).returned = s.returned := rfl
@[simp] theorem State.latch_framing (s : State) (a : DeviceAddress) (m : Mode) (c : Bool) : (s.latch a m c).framing = ⟨m, a, c⟩ := rfl

@[simp] theorem State.setReady_ready (s : State) : (s.setReady).ready = true := rfl
@[simp] theorem State.setReady_devaddr (s : State) : (s.setReady).devaddr = s.devaddr := rfl
@[simp] theorem State.setReady_mode (s : State) : (s.setReady).mode = s.mode := rfl
@[simp] theorem State.setReady_csen (s : State) : (s.setReady).csen = s.csen := rfl
@[simp] theorem State.setReady_acc (s : State) : (s.setReady).acc = s.acc := rfl
@[simp] theorem State.setReady_fb (s : State) : (s.setReady).fb = s.fb := rfl
@[simp] theorem State.setReady_txlog (s : State) : (s.setReady).txlog = s.txlog := rfl
@[simp] theorem State.setReady_pending (s : State) : (s.setReady).pending = s.pending := rfl
@[simp] theorem State.setReady_port (s : State) : (s.setReady).port = s.port := rfl
@[simp] theorem State.setReady_returned (s : State) : (s.setReady).returned = s.returned := rfl
@[simp] theorem State.setReady_framing (s : State) : (s.setReady).framing = s.framing := rfl

@[simp] theorem State.giveBack_ready (s : State) (r : Returned) : (s.giveBack r).ready = s.ready := rfl
@[simp] theorem State.giveBack_devaddr (s : State) (r : Returned) : (s.giveBack r).devaddr = s.devaddr := rfl
@[simp] theorem State.giveBack_mode (s : State) (r : Returned) : (s.giveBack r).mode = s.mode := rfl
@[simp] theorem State.giveBack_csen (s : State) (r : Returned) : (s.giveBack r).csen = s.csen := rfl
@[simp] theorem State.giveBack_acc (s : State) (r : Returned) : (s.giveBack r).acc = s.acc := rfl
@[simp] theorem State.giveBack_fb (s : State) (r : Returned) : (s.giveBack r).fb = s.fb := rfl
@[simp] theorem State.giveBack_txlog (s : State) (r : Returned) : (s.giveBack r).txlog = s.txlog := rfl
@[simp] theorem State.giveBack_pending (s : State) (r : Returned) : (s.giveBack r).pending = s.pending := rfl
@[simp] theorem State.giveBack_port (s : State) (r : Returned) : (s.giveBack r).port = s.port := rfl
@[simp] theorem State.giveBack_returned (s : State) (r : Returned) : (s.giveBack r).returned = s.returned ++ [r] := rfl
@[simp] theorem State.giveBack_framing (s : State) (r : Returned) : (s.giveBack r).framing = s.framing := rfl

@[simp] theorem State.take_ready (s : State) (rest : List Instr) : (s.take rest).ready = s.ready := rfl
@[simp] theorem State.take_devaddr (s : State) (rest : List Instr) : (s.take rest).devaddr = s.devaddr := rfl
@[simp] theorem State.take_mode (s : State) (rest : List Instr) : (s.take rest).mode = s.mode := rfl
@[simp] theorem State.take_csen (s : State) (rest : List Instr) : (s.take rest).csen = s.csen := rfl
@[simp] theorem State.take_acc (s : State) (rest : List Instr) : (s.take rest).acc = s.acc := rfl
@[simp] theorem State.take_fb (s : State) (rest : List Instr) : (s.take rest).fb = s.fb := rfl
@[simp] theorem State.take_txlog (s : State) (rest : List Instr) : (s.take rest).txlog = s.txlog := rfl
@[simp] theorem State.take_pending (s : State) (rest : List Instr) : (s.take rest).pending = s.pending := rfl
@[simp] theorem State.take_port (s : State) (rest : List Instr) : (s.take rest).port = rest := rfl
@[simp] theorem State.take_returned (s : State) (rest : List Instr) : (s.take rest).returned = s.returned := rfl
@[simp] theorem State.take_framing (s : State) (rest : List Instr) : (s.take rest).framing = s.framing := rfl

@[simp] theorem State.present_ready (s : State) (ops : List Instr) : (s.present ops).ready = s.ready := rfl
@[simp] theorem State.present_devaddr (s : State) (ops : List Instr) : (s.present ops).devaddr = s.devaddr := rfl
@[simp] theorem State.present_mode (s : State) (ops : List Instr) : (s.present ops).mode = s.mode := rfl
@[simp] theorem State.present_csen (s : State) (ops : List Instr) : (s.present ops).csen = s.csen := rfl
@[simp] theorem State.present_acc (s : State) (ops : List Instr) : (s.present ops).acc = s.acc := rfl
@[simp] theorem State.present_fb (s : State) (ops : List Instr) : (s.present ops).fb = s.fb := rfl
@[simp] theorem State.present_txlog (s : State) (ops : List Instr) : (s.present ops).txlog = s.txlog := rfl
@[simp] theorem State.present_pending (s : State) (ops : List Instr) : (s.present ops).pending = s.pending := rfl
@[simp] theorem State.present_port (s : State) (ops : List Instr) : (s.present ops).port = ops := rfl
@[simp] theorem State.present_returned (s : State) (ops : List Instr) : (s.present ops).returned = s.returned := rfl
@[simp] theorem State.present_framing (s : State) (ops : List Instr) : (s.present ops).framing = s.framing := rfl

@[simp] theorem State.framing_mode (s : State) : s.framing.mode = s.mode := rfl
@[simp] theorem State.framing_devaddr (s : State) : s.framing.devaddr = s.devaddr := rfl
@[simp] theorem State.framing_csen (s : State) : s.framing.csen = s.csen := rfl

end Sys2Proof.Machine
end

