-- ==== Sys2Proof/Laws/Ops.lean ====
section
/-! SUPPORT. One lemma per shared operation of Machine/Ops.lean: what it answers, in terms of the pure
functions of the spec (`frame`, `crc7`, `trail`), so that no later proof opens the datapath. -/

namespace Sys2Proof.Machine

/-- Folding bytes through the CRC unit leaves the checksum in the accumulator and nothing else changed
(rules R62, R63). -/
theorem State.foldl_feedAcc (poly : Byte) (xs : List Byte) (s : State) :
    xs.foldl (State.feedAcc poly) s = { s with acc := crc7 poly s.acc xs } := by
  induction xs generalizing s with
  | nil => rfl
  | cons b rest ih => simp [ih, crc7, State.feedAcc]

/-- The trailer datapath appends TRAIL of the buffer (rule R45). -/
theorem State.appendTrailer_eq (poly : Byte) (s : State) :
    s.appendTrailer poly =
      { s with acc := crc7 poly 0#8 s.fb, fb := s.fb ++ [trail poly s.fb] } := by
  simp [State.appendTrailer, State.foldl_feedAcc, State.appendFb, State.seedAcc, trail]

/-- The formatter leaves exactly FRAME(op, body) in the buffer (rule R40); the accumulator changes only
when a trailer is computed. -/
theorem State.assemble_eq (p : Params) (op : Byte) (body : List Byte) (s : State) :
    s.assemble p op body =
      { s with
        fb := frame p.poly s.framing op body
        acc := if s.csen then crc7 p.poly 0#8 (preamble s.framing op ++ body) else s.acc } := by
  cases h : s.csen <;>
    simp [State.assemble, State.appendTrailer_eq, State.loadFb, State.framing, frame, h]

theorem commandRefusal_eq_none_iff (s : State) :
    commandRefusal s = none ↔ s.ready = true ∧ s.pending = 0 := by
  cases h : s.ready <;> simp [commandRefusal, h]

theorem commandRefusal_of_not_ready {s : State} (h : s.ready = false) :
    commandRefusal s = some .notCreated := by simp [commandRefusal, h]

theorem commandRefusal_of_pending {s : State} (h : s.ready = true) (hp : s.pending ≠ 0) :
    commandRefusal s = some .replyOutstanding := by simp [commandRefusal, h, hp]

/-- The state an accepted command leaves. -/
theorem commandWith_accepted (p : Params) (c : Command) (body : List Byte) (r : Fin 3) {s : State}
    (hr : s.ready = true) (hp : s.pending = 0) :
    commandWith p c body r s = .next
      { s with
        txlog := s.txlog ++ [frame p.poly s.framing (p.opc c) body]
        fb := []
        pending := r
        acc := if s.csen then crc7 p.poly 0#8 (preamble s.framing (p.opc c) ++ body) else s.acc } := by
  simp [commandWith, (commandRefusal_eq_none_iff s).2 ⟨hr, hp⟩, State.assemble_eq, State.sendFb,
    State.txEmit, State.loadFb, State.setPending]

/-- Everything the common step can do: refuse for one of the two reasons, or emit one frame. -/
theorem commandWith_cases (p : Params) (c : Command) (body : List Byte) (r : Fin 3) (s : State) :
    (s.ready = false ∧ commandWith p c body r s = .refused .notCreated) ∨
    (s.ready = true ∧ s.pending ≠ 0 ∧ commandWith p c body r s = .refused .replyOutstanding) ∨
    (s.ready = true ∧ s.pending = 0 ∧ commandWith p c body r s = .next
      { s with
        txlog := s.txlog ++ [frame p.poly s.framing (p.opc c) body]
        fb := []
        pending := r
        acc := if s.csen then crc7 p.poly 0#8 (preamble s.framing (p.opc c) ++ body) else s.acc }) := by
  rcases Bool.eq_false_or_eq_true s.ready with hr | hr
  rotate_left
  · exact .inl ⟨hr, by simp [commandWith, commandRefusal_of_not_ready hr]⟩
  · by_cases hp : s.pending = 0
    · exact .inr (.inr ⟨hr, hp, commandWith_accepted p c body r hr hp⟩)
    · exact .inr (.inl ⟨hr, hp, by simp [commandWith, commandRefusal_of_pending hr hp]⟩)

/-- Everything the empty batch can do (rule R101). -/
theorem runEmptyCommand_cases (s : State) :
    (s.ready = false ∧ runEmptyCommand s = .refused .notCreated) ∨
    (s.ready = true ∧ s.pending ≠ 0 ∧ runEmptyCommand s = .refused .replyOutstanding) ∨
    (s.ready = true ∧ s.pending = 0 ∧ runEmptyCommand s = .next s) := by
  rcases Bool.eq_false_or_eq_true s.ready with hr | hr
  rotate_left
  · exact .inl ⟨hr, by simp [runEmptyCommand, commandRefusal_of_not_ready hr]⟩
  · by_cases hp : s.pending = 0
    · exact .inr (.inr ⟨hr, hp, by simp [runEmptyCommand, (commandRefusal_eq_none_iff s).2 ⟨hr, hp⟩]⟩)
    · exact .inr (.inl ⟨hr, hp, by simp [runEmptyCommand, commandRefusal_of_pending hr hp]⟩)

/-- Everything creation can do (rules R121, R122). -/
theorem createWith_cases (p : Params) (addr : DeviceAddress) (mode : Mode) (crc : Bool) (s : State) :
    (s.ready = true ∧ createWith p addr mode crc s = .refused .alreadyCreated) ∨
    (s.ready = false ∧ createWith p addr mode crc s = .next
      { s with
        devaddr := addr
        mode := mode
        csen := crc
        txlog := s.txlog ++ [[p.autobaud]]
        ready := true }) := by
  rcases Bool.eq_false_or_eq_true s.ready with hr | hr
  · exact .inl ⟨hr, by simp [createWith, creationRefusal, hr]⟩
  · exact .inr ⟨hr, by simp [createWith, creationRefusal, hr, State.latch, State.txEmit, State.setReady]⟩

/-- Everything the host event can do (rule R124). -/
theorem endReply_cases (s : State) :
    (s.ready = false ∧ endReply s = .refused .notCreated) ∨
    (s.ready = true ∧ endReply s = .next { s with pending := 0 }) := by
  rcases Bool.eq_false_or_eq_true s.ready with hr | hr
  rotate_left
  · exact .inl ⟨hr, by simp [endReply, replyRefusal, hr]⟩
  · exact .inr ⟨hr, by simp [endReply, replyRefusal, hr, State.setPending]⟩

end Sys2Proof.Machine
end

