-- ==== Sys2Proof/Laws/PerInstr.lean ====
section
/-! SUPPORT. The family HasWireForm: which operations have a wire encoding at all, one lemma per
constructor of `Instr` (rules R48, R101, R121). -/

namespace Sys2Proof.Laws.HasWireForm

/-- An operation has a wire form exactly if it is the creation or a command other than the empty batch,
whatever the parameters and the configuration. -/
def Statement (i : Instr) : Prop :=
  ∀ (p : Params) (f : Framing), (encode p f i).isSome =
    match i with
    | .setMultipleTargets _ vals => !vals.isEmpty
    | .init _ _ _ => true
    | .setTarget _ _ | .setSpeed _ _ | .setAccel _ _ | .setPwm _ _ _ | .getPosition _
    | .getMovingState | .getErrors | .goHome | .stopScript | .restartScript _
    | .restartScriptParam _ _ | .getScriptStatus => true
    | .replyDone | .crc7 _ _ | .trail _ | .enc14 _ | .dec14 _ _ | .dec16 _ _ => false

theorem setTarget (ch : Byte) (v : Word) : Statement (.setTarget ch v) := fun _ _ => rfl
theorem setSpeed (ch : Byte) (v : Word) : Statement (.setSpeed ch v) := fun _ _ => rfl
theorem setAccel (ch : Byte) (v : Word) : Statement (.setAccel ch v) := fun _ _ => rfl
theorem setPwm (ch : Byte) (on per : Word) : Statement (.setPwm ch on per) := fun _ _ => rfl
theorem getPosition (ch : Byte) : Statement (.getPosition ch) := fun _ _ => rfl
theorem getMovingState : Statement .getMovingState := fun _ _ => rfl
theorem setMultipleTargets (start : Byte) (vals : List Word) :
    Statement (.setMultipleTargets start vals) := by
  intro p f
  cases vals <;> rfl
theorem getErrors : Statement .getErrors := fun _ _ => rfl
theorem goHome : Statement .goHome := fun _ _ => rfl
theorem stopScript : Statement .stopScript := fun _ _ => rfl
theorem restartScript (sub : Byte) : Statement (.restartScript sub) := fun _ _ => rfl
theorem restartScriptParam (sub : Byte) (val : Word) : Statement (.restartScriptParam sub val) :=
  fun _ _ => rfl
theorem getScriptStatus : Statement .getScriptStatus := fun _ _ => rfl
theorem init (addr : DeviceAddress) (mode : Mode) (crc : Bool) : Statement (.init addr mode crc) :=
  fun _ _ => rfl
theorem replyDone : Statement .replyDone := fun _ _ => rfl
theorem crc7 (prev : Byte) (xs : List Byte) : Statement (.crc7 prev xs) := fun _ _ => rfl
theorem trail (xs : List Byte) : Statement (.trail xs) := fun _ _ => rfl
theorem enc14 (v : Word) : Statement (.enc14 v) := fun _ _ => rfl
theorem dec14 (lo hi : Byte) : Statement (.dec14 lo hi) := fun _ _ => rfl
theorem dec16 (lo hi : Byte) : Statement (.dec16 lo hi) := fun _ _ => rfl

end Sys2Proof.Laws.HasWireForm
end

