-- ==== Sys2Proof/Machine/Text.lean ====
section
/-! DEFINITION. The spec's textual notation of an operation (rule R52, decision D15): mnemonic, then
operands separated by commas, numbers in decimal. Notation only: no meaning reads it. -/

namespace Sys2Proof.Machine

/-- The mnemonic, as spec/opcode_table.json spells it. -/
def mnemonic : Instr → String
  | .setTarget _ _ => "SET_TARGET"
  | .setSpeed _ _ => "SET_SPEED"
  | .setAccel _ _ => "SET_ACCEL"
  | .setPwm _ _ _ => "SET_PWM"
  | .getPosition _ => "GET_POSITION"
  | .getMovingState => "GET_MOVING_STATE"
  | .setMultipleTargets _ _ => "SET_MULTIPLE_TARGETS"
  | .getErrors => "GET_ERRORS"
  | .goHome => "GO_HOME"
  | .stopScript => "STOP_SCRIPT"
  | .restartScript _ => "RESTART_SCRIPT"
  | .restartScriptParam _ _ => "RESTART_SCRIPT_PARAM"
  | .getScriptStatus => "GET_SCRIPT_STATUS"
  | .init _ _ _ => "INIT"
  | .replyDone => "REPLY_DONE"
  | .crc7 _ _ => "CRC7"
  | .trail _ => "TRAIL"
  | .enc14 _ => "ENC14"
  | .dec14 _ _ => "DEC14"
  | .dec16 _ _ => "DEC16"

/-- A number in decimal. -/
def numeral {w : Nat} (x : BitVec w) : String := Nat.repr x.toNat

/-- The framing mode's name in an INIT line. -/
def modeName : Mode → String
  | .compact => "compact"
  | .addressed => "addressed"

/-- The checksum switch's name in an INIT line. -/
def switchName : Bool → String
  | true => "on"
  | false => "off"

/-- A bracketed list of numbers. -/
def numerals {w : Nat} (xs : List (BitVec w)) : String :=
  "[" ++ String.intercalate ", " (xs.map numeral) ++ "]"

/-- The operands of an operation, in the order of rule R52. -/
def operandTexts : Instr → List String
  | .setTarget ch v => [numeral ch, numeral v]
  | .setSpeed ch v => [numeral ch, numeral v]
  | .setAccel ch v => [numeral ch, numeral v]
  | .setPwm ch on per => [numeral ch, numeral on, numeral per]
  | .getPosition ch => [numeral ch]
  | .getMovingState => []
  | .setMultipleTargets start vals => [numeral start, numerals vals]
  | .getErrors => []
  | .goHome => []
  | .stopScript => []
  | .restartScript sub => [numeral sub]
  | .restartScriptParam sub val => [numeral sub, numeral val]
  | .getScriptStatus => []
  | .init addr mode crc => [numeral addr, modeName mode, switchName crc]
  | .replyDone => []
  | .crc7 prev xs => [numeral prev, numerals xs]
  | .trail xs => [numerals xs]
  | .enc14 v => [numeral v]
  | .dec14 lo hi => [numeral lo, numeral hi]
  | .dec16 lo hi => [numeral lo, numeral hi]

/-- The operation is written as a function call rather than as a line (rule R52). -/
def isPrimitive : Instr → Bool
  | .crc7 _ _ | .trail _ | .enc14 _ | .dec14 _ _ | .dec16 _ _ => true
  | .setTarget _ _ | .setSpeed _ _ | .setAccel _ _ | .setPwm _ _ _ | .getPosition _
  | .getMovingState | .setMultipleTargets _ _ | .getErrors | .goHome | .stopScript
  | .restartScript _ | .restartScriptParam _ _ | .getScriptStatus | .init _ _ _ | .replyDone => false

/-- The line or call that writes the operation (rule R52). -/
def render (i : Instr) : String :=
  let operands := String.intercalate ", " (operandTexts i)
  if isPrimitive i then mnemonic i ++ "(" ++ operands ++ ")"
  else if operands = "" then mnemonic i else mnemonic i ++ " " ++ operands

end Sys2Proof.Machine
end

