-- ==== Sys2Proof/Tests/Slice0.lean ====
section
/-! SUPPORT. Tests and witnesses. Expected values are the spec's: 95_test_vectors.md, the table of rule R68
and the worked examples; vectors marked POLY or OPC there are run at `tableDefaults`. The witnesses show a
concrete case that meets all hypotheses of a statement of Obligations.lean. -/

namespace Sys2Proof.Tests

open Sys2Proof Sys2Proof.Machine

/-! ### Helpers -/

/-- A created block: compact, no checksum, one auto-baud burst logged. -/
def created : State :=
  { State.reset with ready := true, mode := .compact, devaddr := 0, csen := false,
                     txlog := [[Config.autobaud]] }

/-- The same with address 12 and the checksum on. -/
def created12 : State := { created with mode := .addressed, devaddr := 12, csen := true }

/-- The same as `created`, while two reply bytes are owed. -/
def owing : State := { created with pending := 2 }

/-- The last burst and the reply length after an outcome. -/
def sent : Result → Option (Option (List Byte) × Fin 3)
  | .next t => some (t.txlog.getLast?, t.pending)
  | .fault _ => none
  | .refused _ => none

/-- The log after an outcome. -/
def logged : Result → Option (List (List Byte))
  | .next t => some t.txlog
  | .fault _ => none
  | .refused _ => none

/-- The reason of a refusal. -/
def refusal : Result → Option Refusal
  | .next _ => none
  | .fault _ => none
  | .refused r => some r

/-- The value handed back last. -/
def answered : Result → Option Returned
  | .next t => t.returned.getLast?
  | .fault _ => none
  | .refused _ => none

/-- What is logged by a command at the default parameters. -/
def sentAtDefaults (c : Command) (body : List Byte) (r : Fin 3) (s : State) :
    Option (Option (List Byte) × Fin 3) := sent (commandWith tableDefaults c body r s)

/-! ### Well-formedness -/

/-- R103 (a): 24 values can be presented, 25 cannot. -/
theorem test_wellFormed_refuses_25_values :
    (Instr.setMultipleTargets 0 (List.replicate 24 0)).wellFormed = true ∧
    (Instr.setMultipleTargets 0 (List.replicate 25 0)).wellFormed = false := by decide

/-- R3, R130: 0x3FFF fits a field, 0x4000 does not, in each operand that is a value. -/
theorem test_fitsWire_refuses_0x4000 :
    (Instr.setTarget 0 0x3FFF).fitsWire = true ∧ (Instr.setTarget 0 0x4000).fitsWire = false ∧
    (Instr.setSpeed 0 0x4000).fitsWire = false ∧ (Instr.setAccel 0 0x4000).fitsWire = false ∧
    (Instr.setPwm 0 0x4000 0).fitsWire = false ∧ (Instr.setPwm 0 0 0x4000).fitsWire = false ∧
    (Instr.setMultipleTargets 0 [0, 0x4000]).fitsWire = false ∧
    (Instr.restartScriptParam 0 0x4000).fitsWire = false ∧ (Instr.enc14 0x4000).fitsWire = false := by
  decide

/-- R130: the host's duties refuse channel 24, a batch past channel 23, a subroutine above 0x7F. -/
theorem test_hostDuties_refuses_out_of_range :
    (Instr.getPosition 23).hostDuties = true ∧ (Instr.getPosition 24).hostDuties = false ∧
    (Instr.setMultipleTargets 23 [0]).hostDuties = true ∧
    (Instr.setMultipleTargets 23 [0, 0]).hostDuties = false ∧
    (Instr.restartScript 0x7F).hostDuties = true ∧ (Instr.restartScript 0x80).hostDuties = false ∧
    (Instr.dec14 0x80 0).hostDuties = false := by decide

/-! ### The CRC-7 generator -/

/-- R68: rows 0x to 3x of the printed table. -/
theorem test_crcRom_rows_0 : ((crcRom 0x91).drop 0).take 64 =
    [0x00, 0x41, 0x13, 0x52, 0x26, 0x67, 0x35, 0x74, 0x4C, 0x0D, 0x5F, 0x1E, 0x6A, 0x2B, 0x79, 0x38,
     0x09, 0x48, 0x1A, 0x5B, 0x2F, 0x6E, 0x3C, 0x7D, 0x45, 0x04, 0x56, 0x17, 0x63, 0x22, 0x70, 0x31,
     0x12, 0x53, 0x01, 0x40, 0x34, 0x75, 0x27, 0x66, 0x5E, 0x1F, 0x4D, 0x0C, 0x78, 0x39, 0x6B, 0x2A,
     0x1B, 0x5A, 0x08, 0x49, 0x3D, 0x7C, 0x2E, 0x6F, 0x57, 0x16, 0x44, 0x05, 0x71, 0x30, 0x62, 0x23] := by decide +kernel

/-- R68: rows 4x to 7x of the printed table. -/
theorem test_crcRom_rows_1 : ((crcRom 0x91).drop 64).take 64 =
    [0x24, 0x65, 0x37, 0x76, 0x02, 0x43, 0x11, 0x50, 0x68, 0x29, 0x7B, 0x3A, 0x4E, 0x0F, 0x5D, 0x1C,
     0x2D, 0x6C, 0x3E, 0x7F, 0x0B, 0x4A, 0x18, 0x59, 0x61, 0x20, 0x72, 0x33, 0x47, 0x06, 0x54, 0x15,
     0x36, 0x77, 0x25, 0x64, 0x10, 0x51, 0x03, 0x42, 0x7A, 0x3B, 0x69, 0x28, 0x5C, 0x1D, 0x4F, 0x0E,
     0x3F, 0x7E, 0x2C, 0x6D, 0x19, 0x58, 0x0A, 0x4B, 0x73, 0x32, 0x60, 0x21, 0x55, 0x14, 0x46, 0x07] := by decide +kernel

/-- R68: rows 8x to Bx of the printed table. -/
theorem test_crcRom_rows_2 : ((crcRom 0x91).drop 128).take 64 =
    [0x48, 0x09, 0x5B, 0x1A, 0x6E, 0x2F, 0x7D, 0x3C, 0x04, 0x45, 0x17, 0x56, 0x22, 0x63, 0x31, 0x70,
     0x41, 0x00, 0x52, 0x13, 0x67, 0x26, 0x74, 0x35, 0x0D, 0x4C, 0x1E, 0x5F, 0x2B, 0x6A, 0x38, 0x79,
     0x5A, 0x1B, 0x49, 0x08, 0x7C, 0x3D, 0x6F, 0x2E, 0x16, 0x57, 0x05, 0x44, 0x30, 0x71, 0x23, 0x62,
     0x53, 0x12, 0x40, 0x01, 0x75, 0x34, 0x66, 0x27, 0x1F, 0x5E, 0x0C, 0x4D, 0x39, 0x78, 0x2A, 0x6B] := by decide +kernel

/-- R68: rows Cx to Fx of the printed table. -/
theorem test_crcRom_rows_3 : ((crcRom 0x91).drop 192).take 64 =
    [0x6C, 0x2D, 0x7F, 0x3E, 0x4A, 0x0B, 0x59, 0x18, 0x20, 0x61, 0x33, 0x72, 0x06, 0x47, 0x15, 0x54,
     0x65, 0x24, 0x76, 0x37, 0x43, 0x02, 0x50, 0x11, 0x29, 0x68, 0x3A, 0x7B, 0x0F, 0x4E, 0x1C, 0x5D,
     0x7E, 0x3F, 0x6D, 0x2C, 0x58, 0x19, 0x4B, 0x0A, 0x32, 0x73, 0x21, 0x60, 0x14, 0x55, 0x07, 0x46,
     0x77, 0x36, 0x64, 0x25, 0x51, 0x10, 0x42, 0x03, 0x3B, 0x7A, 0x28, 0x69, 0x1D, 0x5C, 0x0E, 0x4F] := by decide +kernel

/-- R61: the eight steps from 0x83. -/
theorem test_crcStep_trace :
    [0x83, 0x09, 0x4C, 0x26, 0x13, 0x41, 0x68, 0x34].map (crcStep 0x91) =
    [0x09, 0x4C, 0x26, 0x13, 0x41, 0x68, 0x34, 0x1A] := by decide

/-- V-CRC-2, V-CRC-5 to V-CRC-9. -/
theorem test_crc7_vectors : crc7 0x91 0x80 [] = 0x80 ∧ crc7 0x91 0 [0x83, 0x01] = 0x17 ∧
    crc7 0x91 0x80 [0] = 0x48 ∧ crc7 0x91 0xFF [0xFF] = 0 ∧ crc7 0x91 0x55 [0xAA] = 0x4F ∧
    crc7 0x91 0 [0x31, 0x32, 0x33, 0x34, 0x35, 0x36, 0x37, 0x38, 0x39] = 0x25 := by decide +kernel

/-- V-CRC-10, V-CRC-13, V-CRC-14. -/
theorem test_trail_vectors : trail 0x91 [0x84, 0x00, 0x70, 0x2E] = 0x2B ∧
    trail 0x91 [0xAA, 0x0C, 0x04, 0x02, 0x70, 0x2E] = 0x11 ∧
    trail 0x91 [0xAA, 0x0C, 0x04, 0x02, 0x71, 0x2E] = 0x74 := by decide +kernel

/-! ### The codec -/

/-- V-COD-1 to V-COD-15. -/
theorem test_enc14_vectors :
    [0, 1, 127, 128, 255, 256, 1000, 2000, 6000, 10000, 10837, 16383, 16384, 20000, 65535].map enc14 =
    [[0, 0], [1, 0], [0x7F, 0], [0, 1], [0x7F, 1], [0, 2], [0x68, 0x07], [0x50, 0x0F], [0x70, 0x2E],
     [0x10, 0x4E], [0x55, 0x54], [0x7F, 0x7F], [0, 0], [0x20, 0x1C], [0x7F, 0x7F]] := by decide +kernel

/-- V-COD-17 to V-COD-25. -/
theorem test_dec14_vectors :
    [dec14 3 0, dec14 0 1, dec14 0 2, dec14 0x70 0x2E, dec14 0x70 0x17, dec14 0x7F 0x7F, dec14 0x80 0,
     dec14 0 0x80, dec14 0xFF 0xFF] = [3, 128, 256, 6000, 3056, 16383, 128, 16384, 32895] := by
  decide +kernel

theorem test_dec16_vectors :
    [dec16 3 0, dec16 0 1, dec16 0 2, dec16 0x70 0x2E, dec16 0x70 0x17, dec16 0x7F 0x7F, dec16 0x80 0,
     dec16 0 0x80, dec16 0xFF 0xFF] = [3, 256, 512, 11888, 6000, 32639, 128, 32768, 65535] := by
  decide +kernel

/-! ### Frames -/

/-- V-FRM-1 to V-FRM-5, V-FRM-8. -/
theorem test_frame_vectors (poly : Byte) :
    frame poly ⟨.compact, 0, false⟩ 0x84 [] = [0x84] ∧
    frame poly ⟨.addressed, 12, false⟩ 0x84 [] = [0xAA, 0x0C, 0x04] ∧
    frame poly ⟨.addressed, 0, false⟩ 0x84 [] = [0xAA, 0x00, 0x04] ∧
    frame poly ⟨.addressed, 127, false⟩ 0xFF [] = [0xAA, 0x7F, 0x7F] ∧
    frame poly ⟨.compact, 127, false⟩ 0x04 [] = [0x04] ∧
    frame poly ⟨.compact, 0, false⟩ 0xA7 (bodyD1 0x85) = [0xA7, 0x85] := ⟨rfl, rfl, rfl, rfl, rfl, rfl⟩

/-- V-FRM-6, V-FRM-9. -/
theorem test_frame_trailer_vectors :
    frame 0x91 ⟨.addressed, 1, true⟩ 0x00 [] = [0xAA, 0x01, 0x00, 0x27] ∧
    frame 0x91 ⟨.addressed, 12, true⟩ 0x84 (bodyC1V 0xC8 6000) =
      [0xAA, 0x0C, 0x04, 0xC8, 0x70, 0x2E, 0x38] := by decide +kernel

/-- V-FRM-11: the longest frame, through the datapath. -/
theorem test_longest_frame :
    sentAtDefaults .setMultipleTargets
      (bodyM 0 ((List.range 24).map fun k => BitVec.ofNat 16 (2000 + 100 * k))) 0
      { created12 with devaddr := 127 } =
    some (some [0xAA, 0x7F, 0x1F, 0x18, 0x00, 0x50, 0x0F, 0x34, 0x10, 0x18, 0x11, 0x7C, 0x11, 0x60,
      0x12, 0x44, 0x13, 0x28, 0x14, 0x0C, 0x15, 0x70, 0x15, 0x54, 0x16, 0x38, 0x17, 0x1C, 0x18, 0x00,
      0x19, 0x64, 0x19, 0x48, 0x1A, 0x2C, 0x1B, 0x10, 0x1C, 0x74, 0x1C, 0x58, 0x1D, 0x3C, 0x1E, 0x20,
      0x1F, 0x04, 0x20, 0x68, 0x20, 0x4C, 0x21, 0x13], 0) := by decide +kernel

/-! ### Decoding: one word per row, written out from the table's encoding column -/

theorem test_decode_setTarget : decodeTableWord 32 0b00101110_01110000_00000010_10000100 =
    some (.setTarget 2 6000) := by decide +kernel
theorem test_decode_setSpeed : decodeTableWord 32 0b00000001_00001100_00000001_10000111 =
    some (.setSpeed 1 140) := by decide +kernel
theorem test_decode_setAccel : decodeTableWord 32 0b00000001_01111111_00000011_10001001 =
    some (.setAccel 3 255) := by decide +kernel
theorem test_decode_setPwm :
    decodeTableWord 48 0b00000000_01111111_00000001_00000000_00001000_10001010 =
    some (.setPwm 8 128 127) := by decide +kernel
theorem test_decode_getPosition : decodeTableWord 16 0b00010111_10010000 =
    some (.getPosition 23) := by decide +kernel
theorem test_decode_getMovingState : decodeTableWord 8 0b10010011 = some .getMovingState := by
  decide +kernel
theorem test_decode_setMultipleTargets :
    decodeTableWord 56 0b00100011_00010100_00000000_00000000_00000011_00000010_10011111 =
    some (.setMultipleTargets 3 [0, 4500]) := by decide +kernel
theorem test_decode_getErrors : decodeTableWord 8 0b10100001 = some .getErrors := by decide +kernel
theorem test_decode_goHome : decodeTableWord 8 0b10100010 = some .goHome := by decide +kernel
theorem test_decode_stopScript : decodeTableWord 8 0b10100100 = some .stopScript := by decide +kernel
theorem test_decode_restartScript : decodeTableWord 16 0b10000101_10100111 =
    some (.restartScript 0x85) := by decide +kernel
theorem test_decode_restartScriptParam : decodeTableWord 32 0b00000111_01101000_00000101_10101000 =
    some (.restartScriptParam 5 1000) := by decide +kernel
theorem test_decode_getScriptStatus : decodeTableWord 8 0b10101110 = some .getScriptStatus := by
  decide +kernel
/-- Log 7: the auto-baud byte carries no operand, so they read as zeros. -/
theorem test_decode_init : decodeTableWord 8 0b10101010 = some (.init 0 .compact false) := by
  decide +kernel

/-- Each rejection by its name. -/
theorem test_decode_rejections :
    decode tableDefaults ⟨.compact, 0, false⟩ [] = .error .truncated ∧
    decode tableDefaults ⟨.compact, 0, false⟩ [0x85] = .error (.unknownCode 0x85) ∧
    decode tableDefaults ⟨.compact, 0, false⟩ [0x84, 0, 0x80, 0] = .error (.topBitSet 0x80) ∧
    decode tableDefaults ⟨.compact, 0, false⟩ [0x9F, 25, 0] = .error (.countTooLarge 25) ∧
    decode tableDefaults ⟨.compact, 0, true⟩ [0xA2, 0x48] = .error (.badTrailer 0x48) ∧
    decode tableDefaults ⟨.addressed, 12, false⟩ [0xA2, 0x0C, 0x22] = .error (.badSync 0xA2) ∧
    decode tableDefaults ⟨.addressed, 12, false⟩ [0xAA, 0x0D, 0x22] = .error (.otherDevice 0x0D) := by
  decide +kernel

/-- P2, step 2, and V-BAT-5, read back from the wire. -/
theorem test_decode_addressed :
    decode tableDefaults ⟨.addressed, 12, true⟩ [0xAA, 0x0C, 0x04, 0x02, 0x70, 0x2E, 0x11] =
      .ok (.setTarget 2 6000, []) ∧
    decode tableDefaults ⟨.addressed, 12, true⟩
      [0xAA, 0x0C, 0x1F, 0x03, 0x03, 0x20, 0x1F, 0x70, 0x2E, 0x40, 0x3E, 0x14] =
      .ok (.setMultipleTargets 3 [4000, 6000, 8000], []) := by decide +kernel

/-! ### The operations. Each meaning's burst at the open parameters, and the vector at the defaults. -/

theorem test_setTarget : sent (exec (.setTarget 0 6000) created) =
    some (some [Config.opc .setTarget, 0x00, 0x70, 0x2E], 0) := rfl
/-- V-CHN-2. -/
theorem test_setTarget_vector : sentAtDefaults .setTarget (bodyC1V 23 16383) 0 created12 =
    some (some [0xAA, 0x0C, 0x04, 0x17, 0x7F, 0x7F, 0x36], 0) := by decide +kernel

theorem test_setSpeed : sent (exec (.setSpeed 1 140) created) =
    some (some [Config.opc .setSpeed, 0x01, 0x0C, 0x01], 0) := rfl
/-- V-CHN-5. -/
theorem test_setSpeed_vector : sentAtDefaults .setSpeed (bodyC1V 5 0) 0 created12 =
    some (some [0xAA, 0x0C, 0x07, 0x05, 0x00, 0x00, 0x78], 0) := by decide +kernel

theorem test_setAccel : sent (exec (.setAccel 5 4) created) =
    some (some [Config.opc .setAccel, 0x05, 0x04, 0x00], 0) := rfl
/-- V-CHN-7. -/
theorem test_setAccel_vector : sentAtDefaults .setAccel (bodyC1V 3 255) 0 created12 =
    some (some [0xAA, 0x0C, 0x09, 0x03, 0x7F, 0x01, 0x54], 0) := by decide +kernel

theorem test_setPwm : sent (exec (.setPwm 8 128 127) created) =
    some (some [Config.opc .setPwm, 0x08, 0x00, 0x01, 0x7F, 0x00], 0) := rfl
/-- V-CHN-9. -/
theorem test_setPwm_vector : sentAtDefaults .setPwm (bodyC2V 8 128 127) 0 created12 =
    some (some [0xAA, 0x0C, 0x0A, 0x08, 0x00, 0x01, 0x7F, 0x00, 0x76], 0) := by decide +kernel

theorem test_getPosition : sent (exec (.getPosition 23) created) =
    some (some [Config.opc .getPosition, 0x17], 2) := rfl
/-- V-CHN-11. -/
theorem test_getPosition_vector : sentAtDefaults .getPosition (bodyC0 23) 2 created12 =
    some (some [0xAA, 0x0C, 0x10, 0x17, 0x7C], 2) := by decide +kernel

theorem test_getMovingState : sent (exec .getMovingState created) =
    some (some [Config.opc .getMovingState], 1) := rfl
/-- V-DEV-9. -/
theorem test_getMovingState_vector :
    sentAtDefaults .getMovingState bodyD0 1 { created12 with devaddr := 127 } =
    some (some [0xAA, 0x7F, 0x13, 0x6D], 1) := by decide +kernel

theorem test_getErrors : sent (exec .getErrors created) = some (some [Config.opc .getErrors], 2) := rfl
/-- V-DEV-2. -/
theorem test_getErrors_vector : sentAtDefaults .getErrors bodyD0 2 created12 =
    some (some [0xAA, 0x0C, 0x21, 0x78], 2) := by decide +kernel

theorem test_goHome : sent (exec .goHome created) = some (some [Config.opc .goHome], 0) := rfl
/-- V-DEV-3. -/
theorem test_goHome_vector : sentAtDefaults .goHome bodyD0 0 created12 =
    some (some [0xAA, 0x0C, 0x22, 0x2A], 0) := by decide +kernel

theorem test_stopScript : sent (exec .stopScript created) = some (some [Config.opc .stopScript], 0) := rfl
/-- V-DEV-4. -/
theorem test_stopScript_vector : sentAtDefaults .stopScript bodyD0 0 created12 =
    some (some [0xAA, 0x0C, 0x24, 0x1F], 0) := by decide +kernel

theorem test_restartScript : sent (exec (.restartScript 0x85) created) =
    some (some [Config.opc .restartScript, 0x85], 0) := rfl
/-- V-DEV-5. -/
theorem test_restartScript_vector : sentAtDefaults .restartScript (bodyD1 5) 0 created12 =
    some (some [0xAA, 0x0C, 0x27, 0x05, 0x68], 0) := by decide +kernel

theorem test_restartScriptParam : sent (exec (.restartScriptParam 5 1000) created) =
    some (some [Config.opc .restartScriptParam, 0x05, 0x68, 0x07], 0) := rfl
/-- V-DEV-8. -/
theorem test_restartScriptParam_vector :
    sentAtDefaults .restartScriptParam (bodyD1V 1 16383) 0 created12 =
    some (some [0xAA, 0x0C, 0x28, 0x01, 0x7F, 0x7F, 0x55], 0) := by decide +kernel

theorem test_getScriptStatus : sent (exec .getScriptStatus created) =
    some (some [Config.opc .getScriptStatus], 1) := rfl
/-- V-DEV-7. -/
theorem test_getScriptStatus_vector : sentAtDefaults .getScriptStatus bodyD0 1 created12 =
    some (some [0xAA, 0x0C, 0x2E, 0x40], 1) := by decide +kernel

theorem test_setMultipleTargets : sent (exec (.setMultipleTargets 3 [0, 4500]) created) =
    some (some [Config.opc .setMultipleTargets, 0x02, 0x03, 0x00, 0x00, 0x14, 0x23], 0) := rfl
/-- V-BAT-4: nothing is emitted. -/
theorem test_setMultipleTargets_empty :
    logged (exec (.setMultipleTargets 7 []) created12) = some [[Config.autobaud]] := rfl

/-- V-INI-1: one bare byte, although the checksum is on. -/
theorem test_init : logged (exec (.init 12 .addressed true) State.reset) = some [[Config.autobaud]] := rfl
/-- V-INI-4. -/
theorem test_init_twice : refusal (exec (.init 6 .compact false) created12) = some .alreadyCreated := rfl

/-- V-INI-6: the reply is consumed. -/
theorem test_replyDone : sent (exec .replyDone owing) = some (some [Config.autobaud], 0) := rfl
/-- V-INI-8. -/
theorem test_replyDone_not_created : refusal (exec .replyDone State.reset) = some .notCreated := rfl

/-- V-INI-3, V-INI-5. -/
theorem test_commands_refused : refusal (exec .goHome State.reset) = some .notCreated ∧
    refusal (exec .stopScript owing) = some .replyOutstanding := ⟨rfl, rfl⟩

/-- V-INI-7: the primitives before INIT; the seed of an empty list unmasked (V-CRC-2). -/
theorem test_crc7_primitive : answered (exec (.crc7 0x80 []) State.reset) = some (.byte 0x80) := rfl
theorem test_trail_primitive : answered (exec (.trail []) State.reset) = some (.byte 0) := rfl
theorem test_enc14_primitive :
    answered (exec (.enc14 6000) State.reset) = some (.bytes [0x70, 0x2E]) := rfl
theorem test_dec14_primitive : answered (exec (.dec14 0xFF 0xFF) State.reset) = some (.word 0x807F) := rfl
theorem test_dec16_primitive : answered (exec (.dec16 0x70 0x17) State.reset) = some (.word 6000) := rfl

/-- Reply decoding of 95_test_vectors.md, V-DEV and V-CHN. -/
theorem test_replies : decodeReply .getMovingState [0x80] = some (.moving true) ∧
    decodeReply .getScriptStatus [0x00] = some (.running true) ∧
    decodeReply .getErrors [0x10, 0x02] = some (.errors 0x0110) ∧
    decodeReply .getPosition [0xFF, 0xFF] = some (.position 65535) ∧
    decodeReply .getPosition [0xFF] = none := by decide +kernel

/-- R52: the textual notation. -/
theorem test_render : render (.init 12 .addressed true) = "INIT 12, addressed, on" ∧
    render .goHome = "GO_HOME" ∧
    render (.setMultipleTargets 3 [4000, 6000]) = "SET_MULTIPLE_TARGETS 3, [4000, 6000]" ∧
    render (.crc7 0 [131, 1]) = "CRC7(0, [131, 1])" := by decide +kernel

/-- The step takes the presented operation; an idle port changes nothing. -/
theorem test_step : step (State.reset.withFetchWord 8 0xAA) =
      exec (.init 0 .compact false) State.reset ∧
    step State.reset = .next State.reset := ⟨rfl, rfl⟩

/-! ### Witnesses for the hypotheses of the statements -/

/-- The default codes are distinct in both modes, as `DecodeInvertsEncode` asks. -/
theorem witness_codesDistinct : codesDistinct tableDefaults .compact ∧ codesDistinct tableDefaults .addressed := by
  constructor <;> intro c c' <;> cases c <;> cases c' <;> first | (intro; rfl) | (intro h; exact absurd h (by decide))

/-- `DecodeInvertsEncode`: a batch of the longest form, at the top of every field. -/
theorem witness_DecodeInvertsEncode :
    codesDistinct tableDefaults .addressed ∧
    (Instr.setMultipleTargets 0xFF (List.replicate 24 0x3FFF)).wellFormed = true ∧
    (Instr.setMultipleTargets 0xFF (List.replicate 24 0x3FFF)).fitsWire = true ∧
    (Instr.setMultipleTargets 0xFF (List.replicate 24 0x3FFF)).isCommand = true ∧
    (encode tableDefaults ⟨.addressed, 127, true⟩
      (.setMultipleTargets 0xFF (List.replicate 24 0x3FFF))).isSome = true :=
  ⟨witness_codesDistinct.2, by decide, by decide, rfl, rfl⟩

/-- `DecodeAcceptsOnlyEncodings`: a word of each clause: a frame, the auto-baud byte, the count 0. -/
theorem witness_DecodeAcceptsOnlyEncodings :
    decode tableDefaults ⟨.compact, 0, false⟩ [0xA2, 0x07] = .ok (.goHome, [0x07]) ∧
    decode tableDefaults ⟨.addressed, 12, true⟩ [0xAA] = .ok (.init 0 .compact false, []) ∧
    decode tableDefaults ⟨.compact, 0, false⟩ [0x9F, 0, 5] = .ok (.setMultipleTargets 5 [], []) := by
  decide +kernel

/-- `ChecksumIsLinearOverXor`: equal lengths, and two polynomials with equal generating entries. -/
theorem witness_ChecksumIsLinearOverXor : [1#8, 2#8].length = [3#8, 4#8].length ∧
    ∀ k : Nat, k < 8 → crcTable 0x91#8 (1#8 <<< k) = crcTable 0x90#8 (1#8 <<< k) := by decide +kernel

/-- `SingleBitErrorChangesTheTrailer`: both ends of the bit range. -/
theorem witness_SingleBitErrorChangesTheTrailer : (0 < 8 ∧ 7 < 8) ∧
    trail 0x91 [0x00 ^^^ (1#8 <<< 7)] ≠ trail 0x91 [0x00] := by decide

/-- `SplitAndRecombineRoundTrip`, `RecombinersAreExactAndDiffer`: the boundary values. -/
theorem witness_codec_bounds : (0x3FFF#16).toNat ≤ 0x3FFF ∧ (0x7F#8).toNat ≤ 0x7F := by decide

/-- `BytesWithTrailerHaveZeroResidue`, `FrameIsPreambleBodyTrailer`, `TrailerCoversEveryByteOfEveryCommand`,
`AccumulatorHoldsTheLastTrailerFold`: both checksum settings, with a command that is accepted. -/
theorem witness_checksum_settings :
    created12.framing.csen = true ∧ created.framing.csen = false ∧
    (∃ t, exec (.setTarget 2 6000) created12 = .next t) ∧ (∃ t, exec (.setTarget 2 6000) created = .next t) ∧
    (Instr.setTarget 2 6000).wellFormed = true ∧ (Instr.setTarget 2 6000).command? = some .setTarget ∧
    ∀ start, Instr.setTarget 2 6000 ≠ .setMultipleTargets start [] :=
  ⟨rfl, rfl, ⟨_, rfl⟩, ⟨_, rfl⟩, rfl, rfl, by simp⟩

/-- `FrameLengthsByFormat`, `FrameBytesKeepTheTopBitConvention`: the boundary channel, and both modes. -/
theorem witness_frame_bytes :
    (Instr.setMultipleTargets 23 [0x3FFF]).wellFormed = true ∧
    (Instr.setMultipleTargets 23 [0x3FFF]).hostDuties = true ∧
    (Instr.setMultipleTargets 23 [0x3FFF]).command? = some .setMultipleTargets ∧
    encodeFrame tableDefaults ⟨.compact, 0, false⟩ (.setMultipleTargets 23 [0x3FFF]) =
      some [0x9F, 0x01, 0x17, 0x7F, 0x7F] ∧
    encodeFrame tableDefaults ⟨.addressed, 12, true⟩ (.setMultipleTargets 23 [0x3FFF]) =
      some [0xAA, 0x0C, 0x1F, 0x01, 0x17, 0x7F, 0x7F, 0x73] := by decide +kernel

/-- `StepRunsThePresentedOperation`: a presented operation, a table word, an empty port, a record too long. -/
theorem witness_StepRunsThePresentedOperation :
    (created.present [.goHome]).port = [.goHome] ∧ Instr.goHome.wellFormed = true ∧
    decodeTableWord 8 0xA2 = some .goHome ∧ created.port = [] ∧
    (Instr.setMultipleTargets 0 (List.replicate 25 0)).wellFormed = false := by decide +kernel

/-- The completion statements of the commands: a created block with no reply owed. -/
theorem witness_command_completion : created.ready = true ∧ created.pending = 0 := ⟨rfl, rfl⟩

/-- `BatchSendsCountStartAndValuesInOrder`: both ends of the count. -/
theorem witness_BatchSendsCountStartAndValuesInOrder :
    created.ready = true ∧ created.pending = 0 ∧
    1 ≤ [(0 : Word)].length ∧ [(0 : Word)].length ≤ 24 ∧
    1 ≤ (List.replicate 24 (0 : Word)).length ∧ (List.replicate 24 (0 : Word)).length ≤ 24 :=
  ⟨rfl, rfl, by decide, by decide, by decide, by decide⟩

/-- `EmptyBatchIsANoOpSuccess`, `RefusalsAreExactlyTheThreeConditions`, `AutobaudByteComesBeforeAnyFrame`,
`ReplyMustBeConsumedBeforeTheNextCommand`: a state for each premise. -/
theorem witness_acceptance_states :
    (created.ready = true ∧ created.pending = 0) ∧ State.reset.ready = false ∧
    (owing.ready = true ∧ owing.pending ≠ 0) ∧ Instr.goHome.isCommand = true ∧
    (∃ t, exec .getErrors created = .next t) :=
  ⟨⟨rfl, rfl⟩, rfl, ⟨rfl, by decide⟩, rfl, ⟨_, rfl⟩⟩

/-- `AcceptedCommandEmitsItsTableEncoding`, `ConfigurationIsFixedAfterCreation` (its last clause). -/
theorem witness_AcceptedCommandEmitsItsTableEncoding :
    (Instr.setTarget 2 6000).wellFormed = true ∧ (Instr.setTarget 2 6000).command? = some .setTarget ∧
    (encode Config.params created.framing (.setTarget 2 6000)).isSome = true ∧
    created.ready = true ∧ created.pending = 0 := ⟨rfl, rfl, rfl, rfl, rfl⟩

/-- `InitLatchesConfigurationAndSendsAutobaud`. -/
theorem witness_InitLatchesConfigurationAndSendsAutobaud :
    State.reset.ready = false ∧ created.ready = true ∧ tableDefaults.autobaud = 0xAA := ⟨rfl, rfl, rfl⟩

/-- `ConfigurationIsFixedAfterCreation`, `EachStepAppendsAtMostOneBurst`, `CompactModeIgnoresTheDeviceAddress`:
a created block in compact mode that steps. -/
theorem witness_created_steps : created.ready = true ∧ created.fb = [] ∧ created.mode = .compact ∧
    (∃ t, step (created.present [.goHome]) = .next t) ∧ (∃ t, exec .goHome created = .next t) :=
  ⟨rfl, rfl, rfl, ⟨_, rfl⟩, ⟨_, rfl⟩⟩

/-- `AutobaudByteComesBeforeAnyFrame`, `ResetLeavesTheBlockUncreated`, `TrailerCoversEveryByteOfEveryCommand`
(its last clause): a step from a block not created, by INIT. -/
theorem witness_uncreated_steps : (State.reset.present [.init 12 .addressed true]).ready = false ∧
    ∃ t, step (State.reset.present [.init 12 .addressed true]) = .next t := ⟨rfl, ⟨_, rfl⟩⟩

/-- `EveryStepKeepsTheProtocolInvariant`: the reset state with INIT presented has the invariant and steps. -/
theorem witness_EveryStepKeepsTheProtocolInvariant :
    (State.reset.present [.init 12 .addressed true]).Inv ∧
    ∃ t, step (State.reset.present [.init 12 .addressed true]) = .next t :=
  ⟨⟨rfl, by decide, fun _ => ⟨rfl, rfl⟩, fun h => absurd h (by decide), fun h => absurd rfl h⟩, ⟨_, rfl⟩⟩

/-- `CommandBytesIgnoreAllOtherState`: two states that differ in all the rest. -/
theorem witness_CommandBytesIgnoreAllOtherState :
    created.ready = ({ created with acc := 0x55, fb := [1], txlog := [] } : State).ready ∧
    created.pending = ({ created with acc := 0x55, fb := [1], txlog := [] } : State).pending ∧
    created.framing = ({ created with acc := 0x55, fb := [1], txlog := [] } : State).framing :=
  ⟨rfl, rfl, rfl⟩

/-- `PresentedCommandsAreEmittedInOrder`: two commands, one of them the empty batch. -/
theorem witness_PresentedCommandsAreEmittedInOrder :
    (created.present [.goHome, .setMultipleTargets 7 []]).ready = true ∧
    (created.present [.goHome, .setMultipleTargets 7 []]).pending = 0 ∧
    ∀ i ∈ (created.present [.goHome, .setMultipleTargets 7 []]).port,
      i.wellFormed = true ∧ ∃ c, i.command? = some c ∧ replyBytes c = 0 := by
  refine ⟨rfl, rfl, ?_⟩
  intro i hi
  simp at hi
  rcases hi with rfl | rfl
  · exact ⟨rfl, _, rfl, rfl⟩
  · exact ⟨rfl, _, rfl, rfl⟩

end Sys2Proof.Tests
end

/-! ## Facts about the operations

What each operation answers, in terms of the shared operations of Machine/Ops.lean, and what a step can
do: the layer that the obligations on the state and on the frames are assembled from. -/

namespace Sys2Proof.Machine

/-! ### Every operation is one of five shared operations -/

/-- The body an operation hands to the frame formatter (rule R47): none for the creation, the host event
and the primitives. Tied to the machine by `exec_command`, to the encoder by `operandBytes_command`. -/
def commandBody : Instr → List Byte
  | .setTarget ch v | .setSpeed ch v | .setAccel ch v => bodyC1V ch v
  | .setPwm ch on per => bodyC2V ch on per
  | .getPosition ch => bodyC0 ch
  | .setMultipleTargets start vals => bodyM start vals
  | .restartScript sub => bodyD1 sub
  | .restartScriptParam sub val => bodyD1V sub val
  | .getMovingState | .getErrors | .goHome | .stopScript | .getScriptStatus => bodyD0
  | .init _ _ _ | .replyDone | .crc7 _ _ | .trail _ | .enc14 _ | .dec14 _ _ | .dec16 _ _ => []

/-- Every command but the empty batch runs the common step with its body and its reply length (R80). -/
theorem exec_command {i : Instr} {c : Command} (hc : i.command? = some c)
    (hne : ∀ start, i ≠ .setMultipleTargets start []) (s : State) :
    exec i s = runCommand c (commandBody i) (replyBytes c) s := by
  cases i with
  | setMultipleTargets start vals =>
    cases vals with
    | nil => exact absurd rfl (hne start)
    | cons v vs => cases hc; rfl
  | init | replyDone | crc7 | trail | enc14 | dec14 | dec16 => cases hc
  | _ => cases hc; rfl

/-- The empty batch runs the acceptance tests alone (rule R101). -/
theorem exec_emptyBatch (start : Byte) (s : State) :
    exec (.setMultipleTargets start []) s = runEmptyCommand s := rfl

/-- A command runs the common step or is the empty batch. -/
theorem exec_command_cases {i : Instr} {c : Command} (hc : i.command? = some c) :
    (∀ s, exec i s = runCommand c (commandBody i) (replyBytes c) s) ∨
      ∃ start, i = .setMultipleTargets start [] := by
  by_cases hne : ∀ start, i ≠ .setMultipleTargets start []
  · exact .inl (exec_command hc hne)
  · push Not at hne
    exact .inr hne

/-- What is not a command is the creation, the host event, or a primitive, which answers a value. -/
theorem exec_not_command {i : Instr} (hc : i.command? = none) :
    (∃ addr mode crc, i = .init addr mode crc) ∨ i = .replyDone ∨
      ∃ r, ∀ s, exec i s = answer r s := by
  cases i with
  | init addr mode crc => exact .inl ⟨addr, mode, crc, rfl⟩
  | replyDone => exact .inr (.inl rfl)
  | crc7 | trail | enc14 | dec14 | dec16 => exact .inr (.inr ⟨_, fun _ => rfl⟩)
  | _ => cases hc

/-! ### What an accepted operation leaves -/

/-- An accepted command has exactly the effect of rule R80. -/
theorem runCommand_accepted (c : Command) (body : List Byte) (r : Fin 3) {s : State}
    (hr : s.ready = true) (hp : s.pending = 0) :
    ∃ t, runCommand c body r s = .next t ∧ CommandEffect s t (s.frameOf c body) r :=
  ⟨_, commandWith_accepted Config.params c body r hr hp,
    { txlog := rfl, pending := rfl, fb := rfl, ready := rfl, framing := rfl, port := rfl,
      returned := rfl, acc := fun hcs => by simp [hcs] }⟩

/-- A command that answers a next state was accepted: the block is created and no reply is owed. -/
theorem runCommand_next {c : Command} {body : List Byte} {r : Fin 3} {s t : State}
    (h : runCommand c body r s = .next t) :
    s.ready = true ∧ s.pending = 0 ∧ CommandEffect s t (s.frameOf c body) r := by
  rcases commandWith_cases Config.params c body r s with ⟨-, e⟩ | ⟨-, -, e⟩ | ⟨hr, hp, -⟩
  · cases e.symm.trans h
  · cases e.symm.trans h
  · obtain ⟨t', e, effect⟩ := runCommand_accepted c body r hr hp
    cases e.symm.trans h
    exact ⟨hr, hp, effect⟩

theorem runEmptyCommand_next {s t : State} (h : runEmptyCommand s = .next t) :
    s.ready = true ∧ s.pending = 0 ∧ t = s := by
  rcases runEmptyCommand_cases s with ⟨-, e⟩ | ⟨-, -, e⟩ | ⟨hr, hp, e⟩ <;> cases e.symm.trans h
  exact ⟨hr, hp, rfl⟩

theorem createWith_next {p : Params} {addr : DeviceAddress} {mode : Mode} {crc : Bool} {s t : State}
    (h : createWith p addr mode crc s = .next t) :
    s.ready = false ∧ t = ((s.latch addr mode crc).txEmit [p.autobaud]).setReady := by
  rcases createWith_cases p addr mode crc s with ⟨-, e⟩ | ⟨hr, e⟩ <;> cases e.symm.trans h
  exact ⟨hr, rfl⟩

theorem endReply_next {s t : State} (h : endReply s = .next t) :
    s.ready = true ∧ t = s.setPending 0 := by
  rcases endReply_cases s with ⟨-, e⟩ | ⟨hr, e⟩ <;> cases e.symm.trans h
  exact ⟨hr, rfl⟩

/-- Everything an operation that answers a next state can have done: one frame, nothing (the empty
batch), the creation, the end of a reply, or a value handed back. -/
theorem exec_next_cases {i : Instr} {s t : State} (h : exec i s = .next t) :
    (∃ c, i.command? = some c ∧ s.ready = true ∧ s.pending = 0 ∧
      CommandEffect s t (s.frameOf c (commandBody i)) (replyBytes c)) ∨
    (∃ start, i = .setMultipleTargets start [] ∧ s.ready = true ∧ s.pending = 0 ∧ t = s) ∨
    (∃ addr mode crc, i = .init addr mode crc ∧ s.ready = false ∧
      t = ((s.latch addr mode crc).txEmit [Config.autobaud]).setReady) ∨
    (i = .replyDone ∧ s.ready = true ∧ t = s.setPending 0) ∨
    (i.command? = none ∧ ∃ r, t = s.giveBack r) := by
  cases hc : i.command? with
  | some c =>
    rcases exec_command_cases hc with e | ⟨start, rfl⟩
    · exact .inl ⟨c, rfl, runCommand_next ((e s).symm.trans h)⟩
    · exact .inr (.inl ⟨start, rfl, runEmptyCommand_next h⟩)
  | none =>
    rcases exec_not_command hc with ⟨addr, mode, crc, rfl⟩ | rfl | ⟨r, e⟩
    · exact .inr (.inr (.inl ⟨addr, mode, crc, rfl, createWith_next h⟩))
    · exact .inr (.inr (.inr (.inl ⟨rfl, endReply_next h⟩)))
    · cases (e s).symm.trans h
      exact .inr (.inr (.inr (.inr ⟨rfl, r, rfl⟩)))

/-- A step that answers a next state did nothing, with nothing presented, or ran the first operation
presented, which the port can carry. -/
theorem step_next_cases {s t : State} (h : step s = .next t) :
    (s.port = [] ∧ t = s) ∨
    ∃ i rest, s.port = i :: rest ∧ i.wellFormed = true ∧ exec i (s.take rest) = .next t := by
  unfold step at h
  split at h
  next hport => cases h; exact .inl ⟨hport, rfl⟩
  next i rest hport =>
    split at h
    next hwf => exact .inr ⟨i, rest, hport, hwf, h⟩
    next => cases h

/-! ### The configuration and READY under an operation -/

/-- No command writes READY or the configuration (rule R16). -/
theorem exec_command_keeps_framing {i : Instr} {s t : State} (hi : i.isCommand = true)
    (h : exec i s = .next t) : t.framing = s.framing ∧ t.ready = s.ready := by
  rcases exec_next_cases h with ⟨c, -, -, -, effect⟩ | ⟨start, -, -, -, rfl⟩ |
    ⟨addr, mode, crc, rfl, -, -⟩ | ⟨rfl, -, -⟩ | ⟨hnone, -⟩
  · exact ⟨effect.framing, effect.ready⟩
  · exact ⟨rfl, rfl⟩
  · cases hi
  · cases hi
  · simp [Instr.isCommand, hnone] at hi

/-- On a created block INIT is refused and nothing else writes READY or the configuration (R16, R122). -/
theorem exec_keeps_framing_of_ready {i : Instr} {s t : State} (hr : s.ready = true)
    (h : exec i s = .next t) : t.ready = true ∧ t.framing = s.framing := by
  rcases exec_next_cases h with ⟨c, -, -, -, effect⟩ | ⟨start, -, -, -, rfl⟩ |
    ⟨addr, mode, crc, -, hr', -⟩ | ⟨-, -, rfl⟩ | ⟨-, r, rfl⟩
  · exact ⟨effect.ready.trans hr, effect.framing⟩
  · exact ⟨hr, rfl⟩
  · cases hr.symm.trans hr'
  · exact ⟨hr, rfl⟩
  · exact ⟨hr, rfl⟩

/-- READY and the configuration are fixed from creation on: no step changes them (rules R16, R17). -/
theorem step_keeps_framing_of_ready {s t : State} (hr : s.ready = true) (h : step s = .next t) :
    t.ready = true ∧ t.framing = s.framing := by
  rcases step_next_cases h with ⟨-, rfl⟩ | ⟨i, rest, -, -, he⟩
  · exact ⟨hr, rfl⟩
  · exact exec_keeps_framing_of_ready (s := s.take rest) hr he

/-- A command presented before INIT is refused (rule R123). -/
theorem exec_command_of_not_ready {i : Instr} {s : State} (hi : i.isCommand = true)
    (hr : s.ready = false) : exec i s = .refused .notCreated := by
  obtain ⟨c, hc⟩ := Option.isSome_iff_exists.1 hi
  rcases exec_command_cases hc with e | ⟨start, rfl⟩
  · simp [e, runCommand, commandWith, commandRefusal_of_not_ready hr]
  · simp [exec_emptyBatch, runEmptyCommand, commandRefusal_of_not_ready hr]

/-- INIT on a block that is not created latches its operands, emits the bare auto-baud byte and makes the
block ready (rule R121). -/
theorem exec_init_of_not_ready (addr : DeviceAddress) (mode : Mode) (crc : Bool) {s : State}
    (hr : s.ready = false) :
    exec (.init addr mode crc) s =
      .next ((s.latch addr mode crc).txEmit [Config.autobaud]).setReady := by
  rcases createWith_cases Config.params addr mode crc s with ⟨hr', -⟩ | ⟨-, e⟩
  · cases hr.symm.trans hr'
  · exact e

/-- Before creation only INIT and the primitives are accepted: INIT emits the bare auto-baud byte and
makes the block ready, a primitive emits nothing (rules R17, R111, R121). -/
theorem exec_next_of_not_ready {i : Instr} {s t : State} (hr : s.ready = false)
    (h : exec i s = .next t) :
    (t.ready = false ∧ t.txlog = s.txlog) ∨
    (t.ready = true ∧ t.txlog = s.txlog ++ [[Config.autobaud]] ∧
      ∃ addr mode crc, i = .init addr mode crc ∧ t.framing = ⟨mode, addr, crc⟩) := by
  rcases exec_next_cases h with ⟨c, -, hr', -, -⟩ | ⟨start, -, hr', -, -⟩ |
    ⟨addr, mode, crc, rfl, -, rfl⟩ | ⟨-, hr', -⟩ | ⟨-, r, rfl⟩
  · cases hr.symm.trans hr'
  · cases hr.symm.trans hr'
  · exact .inr ⟨rfl, rfl, addr, mode, crc, rfl, rfl⟩
  · cases hr.symm.trans hr'
  · exact .inl ⟨hr, rfl⟩

/-! ### The datapath's bytes are the encoder's

The encoder of Decode.lean writes fields of seven bits under a clear top bit, the datapath masks and
shifts; both give the same bytes. -/

/-- A seven-bit field under a clear top bit is the masked byte. -/
theorem sevenBits_extractLsb'_byte (b : Byte) : sevenBits (b.extractLsb' 0 7) = b &&& 0x7F#8 := by
  apply BitVec.eq_of_toNat_eq
  have hmask : (b &&& 0x7F#8).toNat = b.toNat % 128 := Nat.and_two_pow_sub_one_eq_mod b.toNat 7
  simp only [hmask, sevenBits, BitVec.toNat_setWidth, BitVec.extractLsb'_toNat, Nat.shiftRight_zero]
  omega

/-- The same for seven bits of a value, from any position on. -/
theorem sevenBits_extractLsb'_word (v : Word) (k : Nat) :
    sevenBits (v.extractLsb' k 7) = ((v >>> k) &&& 0x7F#16).setWidth 8 := by
  apply BitVec.eq_of_toNat_eq
  have hmask : ((v >>> k) &&& 0x7F#16).toNat = (v >>> k).toNat % 128 :=
    Nat.and_two_pow_sub_one_eq_mod (v >>> k).toNat 7
  simp only [hmask, sevenBits, BitVec.toNat_setWidth, BitVec.extractLsb'_toNat,
    BitVec.toNat_ushiftRight]

theorem valueField_eq_enc14 : valueField = enc14 :=
  funext fun v => by simp [valueField, enc14, sevenBits_extractLsb'_word, lowByte, highByte]

/-- The five-bit count field holds every count the port can carry. -/
theorem countByte_eq_ofNat {n : Nat} (h : n ≤ Config.channels) : countByte n = BitVec.ofNat 8 n := by
  have h24 : n ≤ 24 := h
  apply BitVec.eq_of_toNat_eq
  simp [countByte]
  omega

/-- The table's operand bytes are the body the machine frames; the port's bound on a batch is what makes
the count fit its field. -/
theorem operandBytes_command {i : Instr} {c : Command} (hwf : i.wellFormed = true)
    (hc : i.command? = some c) (hne : ∀ start, i ≠ .setMultipleTargets start []) :
    operandBytes i = some (c, commandBody i) := by
  cases i with
  | setMultipleTargets start vals =>
    cases vals with
    | nil => exact absurd rfl (hne start)
    | cons v vs =>
      cases hc
      have hlen : (v :: vs).length ≤ Config.channels := of_decide_eq_true hwf
      simp only [operandBytes, commandBody, bodyM, valueField_eq_enc14, ← countByte_eq_ofNat hlen]
      rfl
  | init | replyDone | crc7 | trail | enc14 | dec14 | dec16 => cases hc
  | setTarget | setSpeed | setAccel =>
    cases hc; simp [operandBytes, commandBody, bodyC1V, valueField_eq_enc14]
  | setPwm => cases hc; simp [operandBytes, commandBody, bodyC2V, valueField_eq_enc14]
  | restartScriptParam => cases hc; simp [operandBytes, commandBody, bodyD1V, valueField_eq_enc14]
  | _ => cases hc; rfl

theorem headBytes_eq_preamble (p : Params) (f : Framing) (c : Command) :
    headBytes p f c = preamble f (p.opc c) := by
  cases hm : f.mode with
  | compact => simp [headBytes, preamble, codeByte, hm]
  | addressed =>
    simp only [headBytes, preamble, codeByte, hm, sevenBits_extractLsb'_byte]
    rfl

theorem trailerByte_eq_trail (p : Params) (bs : List Byte) : trailerByte p bs = trail p.poly bs :=
  sevenBits_extractLsb'_byte _

/-- The encoder's frame is FRAME of rule R40. -/
theorem withTrailer_headBytes_eq_frame (p : Params) (f : Framing) (c : Command) (body : List Byte) :
    withTrailer p f (headBytes p f c ++ body) = frame p.poly f (p.opc c) body := by
  simp [withTrailer, frame, headBytes_eq_preamble, trailerByte_eq_trail]

/-- The wire encoding of a command is the frame of its body; the empty batch has none (rule R101). -/
theorem encode_command {p : Params} {f : Framing} {i : Instr} {c : Command}
    (hwf : i.wellFormed = true) (hc : i.command? = some c)
    (hne : ∀ start, i ≠ .setMultipleTargets start []) :
    encode p f i = some (frame p.poly f (p.opc c) (commandBody i)) := by
  have hframe : encode p f i = encodeFrame p f i := by
    cases i with
    | init => cases hc
    | _ => rfl
  simp [hframe, encodeFrame, operandBytes_command hwf hc hne, withTrailer_headBytes_eq_frame]

theorem encode_emptyBatch (p : Params) (f : Framing) (start : Byte) :
    encode p f (.setMultipleTargets start []) = none := rfl

/-- An accepted command that has an encoding under the current configuration hands over exactly that
encoding (rules R40, R51, R80). -/
theorem exec_command_accepted {s : State} {i : Instr} {c : Command} {w : List Byte}
    (hwf : i.wellFormed = true) (hc : i.command? = some c)
    (hw : encode Config.params s.framing i = some w) (hr : s.ready = true) (hp : s.pending = 0) :
    ∃ t, exec i s = .next t ∧ CommandEffect s t w (replyBytes c) := by
  have hne : ∀ start, i ≠ .setMultipleTargets start [] := by
    rintro start rfl
    cases (encode_emptyBatch Config.params s.framing start).symm.trans hw
  have hburst : s.frameOf c (commandBody i) = w :=
    Option.some.inj ((encode_command hwf hc hne).symm.trans hw)
  rw [exec_command hc hne, ← hburst]
  exact runCommand_accepted c (commandBody i) (replyBytes c) hr hp

@[simp] theorem State.withFraming_framing (s : State) (f : Framing) :
    (s.withFraming f).framing = f := rfl

/-! ### The settled obligations -/

/-- Settles O41: a step from a created block cannot be INIT's, no other operation writes the
configuration, and the datapath's frame is the encoder's. -/
theorem configurationIsFixedAfterCreation : Obligations.ConfigurationIsFixedAfterCreation := by
  refine ⟨fun _ _ => step_keeps_framing_of_ready, fun _ _ _ => exec_command_keeps_framing, ?_, ?_⟩
  · intro s f hr
    exact ⟨_, exec_init_of_not_ready f.devaddr f.mode f.csen hr, rfl⟩
  · intro s f i c w hwf hc hw hr hp
    obtain ⟨t, he, effect⟩ := exec_command_accepted (s := s.withFraming f) hwf hc hw hr hp
    exact ⟨t, he, effect.txlog⟩

/-- Settles O43, by the inversion of a step and of the operation it runs. -/
theorem autobaudByteComesBeforeAnyFrame : Obligations.AutobaudByteComesBeforeAnyFrame := by
  refine ⟨rfl, fun _ _ => exec_command_of_not_ready,
    fun _ _ hr h => (step_keeps_framing_of_ready hr h).1, ?_⟩
  intro s t hr h
  rcases step_next_cases h with ⟨-, rfl⟩ | ⟨i, rest, hport, -, he⟩
  · exact .inl ⟨hr, rfl⟩
  · rcases exec_next_of_not_ready (s := s.take rest) hr he with
      quiet | ⟨hready, hlog, addr, mode, crc, rfl, hframing⟩
    · exact .inl quiet
    · exact .inr ⟨hready, hlog, addr, mode, crc, by simp [hport], hframing⟩

end Sys2Proof.Machine

/-! ## The bytes of a frame

How long each part of a frame is and which of its bytes have a clear top bit (rules R40 to R49): the
layer the obligations on the encoding are assembled from. -/

namespace Sys2Proof.Machine

/-! ### The preamble -/

/-- The command byte of an addressed frame as arithmetic (rule R42). -/
theorem and_7F_eq_ofNat_mod (b : Byte) : b &&& 0x7F#8 = BitVec.ofNat 8 (b.toNat % 128) := by
  apply BitVec.eq_of_toNat_eq
  have hmask : (b &&& 0x7F#8).toNat = b.toNat % 128 := Nat.and_two_pow_sub_one_eq_mod b.toNat 7
  rw [hmask, BitVec.toNat_ofNat]
  omega

theorem preamble_compact (addr : DeviceAddress) (csen : Bool) (op : Byte) :
    preamble ⟨.compact, addr, csen⟩ op = [op] := rfl

theorem preamble_addressed (addr : DeviceAddress) (csen : Bool) (op : Byte) :
    preamble ⟨.addressed, addr, csen⟩ op =
      [0xAA, BitVec.ofNat 8 addr.toNat, BitVec.ofNat 8 (op.toNat % 128)] := by
  rw [BitVec.ofNat_toNat, ← and_7F_eq_ofNat_mod]
  rfl

/-- Settles O16: the two forms of the preamble; the examples apply them. -/
theorem preambleForms : Obligations.PreambleForms :=
  ⟨fun addr csen op => ⟨preamble_compact addr csen op, preamble_addressed addr csen op⟩,
    fun addr csen => preamble_compact addr csen 0x84, fun csen => preamble_addressed 12 csen 0x84⟩

@[simp] theorem preamble_length (f : Framing) (op : Byte) :
    (preamble f op).length = preambleLength f := by
  cases hm : f.mode <;> simp [preamble, preambleLength, Mode.bit, hm]

/-! ### The body and the trailer -/

@[simp] theorem enc14_length (v : Word) : (enc14 v).length = 2 := rfl

/-- Every body has the length of its format (rule R47). -/
@[simp] theorem commandBody_length (i : Instr) : (commandBody i).length = i.bodyLength := by
  cases i with
  | setMultipleTargets start vals =>
    have hvals : (vals.flatMap enc14).length = 2 * vals.length := by simp [Nat.mul_comm]
    exact List.length_append.trans (congrArg (2 + ·) hvals)
  | _ => rfl

theorem frame_of_csen {f : Framing} (h : f.csen = true) (poly op : Byte) (body : List Byte) :
    frame poly f op body =
      preamble f op ++ body ++ [crc7 poly 0#8 (preamble f op ++ body) &&& 0x7F#8] := by
  simp [frame, h, trail]

theorem frame_of_not_csen {f : Framing} (h : f.csen = false) (poly op : Byte) (body : List Byte) :
    frame poly f op body = preamble f op ++ body := by
  simp [frame, h]

/-- The bytes before the trailer have the length rule R51 gives, and begin with the preamble. -/
theorem preamble_append_commandBody (f : Framing) (op : Byte) (i : Instr) :
    (preamble f op ++ commandBody i).length = preambleLength f + i.bodyLength ∧
    (preamble f op ++ commandBody i).take (preambleLength f) = preamble f op :=
  ⟨by simp, List.take_left' (preamble_length f op)⟩

/-- Settles O33: the burst of an accepted command is the frame of its body, with or without a trailer
by CSEN; creation hands over its bare byte. -/
theorem trailerCoversEveryByteOfEveryCommand :
    Obligations.TrailerCoversEveryByteOfEveryCommand := by
  refine ⟨?_, ?_⟩
  · intro s t i c _ hc hne h
    rw [exec_command hc hne] at h
    obtain ⟨-, -, effect⟩ := runCommand_next h
    have hlog := effect.txlog
    have hparts := preamble_append_commandBody s.framing (Config.opc c) i
    refine ⟨fun hcs => ⟨_, ?_, hparts⟩, fun hcs => ⟨_, ?_, hparts⟩⟩
    · rw [hlog, State.frameOf, frame_of_csen (f := s.framing) hcs]
    · rw [hlog, State.frameOf, frame_of_not_csen (f := s.framing) hcs]
  · intro s t addr mode crc h
    obtain ⟨-, rfl⟩ := createWith_next h
    rfl

/-! ### The bytes with a clear top bit

Every byte the formatter makes itself, past the first, is a seven-bit field under a clear top bit, or the
count; only the pass-through byte is the host's (rule R49). -/

theorem sevenBits_le (x : BitVec 7) : (sevenBits x).toNat ≤ 0x7F := by
  have hx := x.isLt
  simp only [sevenBits, BitVec.toNat_setWidth]
  omega

theorem and_7F_le (b : Byte) : (b &&& 0x7F#8).toNat ≤ 0x7F := by
  rw [← sevenBits_extractLsb'_byte]
  exact sevenBits_le _

theorem enc14_le {v : Word} {b : Byte} (h : b ∈ enc14 v) : b.toNat ≤ 0x7F := by
  rw [← valueField_eq_enc14] at h
  simp only [valueField, List.mem_cons, List.not_mem_nil, or_false] at h
  rcases h with rfl | rfl <;> exact sevenBits_le _

theorem ofNat_le_of_le_channels {n : Nat} (h : n ≤ Config.channels) :
    (BitVec.ofNat 8 n).toNat ≤ 0x7F := by
  have h24 : n ≤ 24 := h
  rw [BitVec.toNat_ofNat]
  omega

/-- The preamble is its first byte, which is the sync byte or the whole code, and clean bytes. -/
theorem preamble_eq_cons (f : Framing) (op : Byte) :
    ∃ first rest, preamble f op = first :: rest ∧ (f.mode = .addressed → first = 0xAA#8) ∧
      (f.mode = .compact → first = op) ∧ ∀ b ∈ rest, b.toNat ≤ 0x7F := by
  cases hm : f.mode with
  | compact => exact ⟨op, [], by simp [preamble, hm]⟩
  | addressed =>
    refine ⟨0xAA#8, [sevenBits f.devaddr, op &&& 0x7F#8], by simp [preamble, hm, sevenBits],
      fun _ => rfl, nofun, ?_⟩
    exact List.forall_mem_cons.2 ⟨sevenBits_le _, List.forall_mem_singleton.2 (and_7F_le _)⟩

/-- The body is its pass-through byte at the place rule R47 gives it, between clean bytes; the port's
bound on a batch is what keeps the count byte clean. -/
theorem commandBody_split {i : Instr} {c : Command} (hwf : i.wellFormed = true)
    (hc : i.command? = some c) :
    ∃ front back, commandBody i = front ++ i.passThrough?.toList ++ back ∧
      front.length = passThroughOffset c ∧ ∀ b ∈ front ++ back, b.toNat ≤ 0x7F := by
  cases i with
  | setTarget _ v | setSpeed _ v | setAccel _ v | restartScriptParam _ v =>
    cases hc
    exact ⟨[], enc14 v, rfl, rfl, fun _ => enc14_le⟩
  | setPwm ch on per =>
    cases hc
    exact ⟨[], enc14 on ++ enc14 per, rfl, rfl,
      fun b (hb : b ∈ enc14 on ++ enc14 per) => (List.mem_append.1 hb).elim enc14_le enc14_le⟩
  | setMultipleTargets start vals =>
    cases hc
    have hlen : vals.length ≤ Config.channels := of_decide_eq_true hwf
    refine ⟨[BitVec.ofNat 8 vals.length], vals.flatMap enc14, rfl, rfl, fun b hb => ?_⟩
    rcases List.mem_cons.1 hb with rfl | hvals
    · exact ofNat_le_of_le_channels hlen
    · obtain ⟨v, -, hv⟩ := List.mem_flatMap.1 hvals
      exact enc14_le hv
  | init | replyDone | crc7 | trail | enc14 | dec14 | dec16 => cases hc
  | _ => cases hc; exact ⟨[], [], rfl, rfl, nofun⟩

/-- A frame ends in at most one byte more than its preamble and body, and that byte is clean. -/
theorem frame_eq_append_clean (poly : Byte) (f : Framing) (op : Byte) (body : List Byte) :
    ∃ tail, frame poly f op body = preamble f op ++ body ++ tail ∧ ∀ b ∈ tail, b.toNat ≤ 0x7F := by
  cases hcs : f.csen with
  | false => exact ⟨[], by simp [frame_of_not_csen hcs], nofun⟩
  | true => exact ⟨_, frame_of_csen hcs poly op body, List.forall_mem_singleton.2 (and_7F_le _)⟩

/-- The frame of a command is FRAME of its body; only a command other than the empty batch has one. -/
theorem encodeFrame_command {p : Params} {f : Framing} {i : Instr} {c : Command} {w : List Byte}
    (hwf : i.wellFormed = true) (hc : i.command? = some c) (hw : encodeFrame p f i = some w) :
    w = frame p.poly f (p.opc c) (commandBody i) := by
  have hne : ∀ start, i ≠ .setMultipleTargets start [] := by
    rintro start rfl
    cases hw
  rw [encodeFrame, operandBytes_command hwf hc hne] at hw
  exact (Option.some.inj hw).symm.trans (withTrailer_headBytes_eq_frame p f c _)

/-- Rule R49 as a shape: a frame is its first byte and then clean bytes around the pass-through byte,
which stands at its place. -/
theorem encodeFrame_split {p : Params} {f : Framing} {i : Instr} {c : Command} {w : List Byte}
    (hwf : i.wellFormed = true) (hc : i.command? = some c) (hw : encodeFrame p f i = some w) :
    ∃ first front back, w = first :: (front ++ i.passThrough?.toList ++ back) ∧
      (f.mode = .addressed → first = 0xAA#8) ∧ (f.mode = .compact → first = p.opc c) ∧
      front.length + 1 = preambleLength f + passThroughOffset c ∧
      ∀ b ∈ front ++ back, b.toNat ≤ 0x7F := by
  obtain ⟨first, rest, hpre, haddressed, hcompact, hrest⟩ := preamble_eq_cons f (p.opc c)
  obtain ⟨front, back, hbody, hoffset, hclean⟩ := commandBody_split hwf hc
  obtain ⟨tail, hframe, htail⟩ := frame_eq_append_clean p.poly f (p.opc c) (commandBody i)
  have hlen : rest.length + 1 = preambleLength f := by
    rw [← preamble_length f (p.opc c), hpre, List.length_cons]
  refine ⟨first, rest ++ front, back ++ tail, ?_, haddressed, hcompact, ?_, fun b hb => ?_⟩
  · rw [encodeFrame_command hwf hc hw, hframe, hpre, hbody]
    simp
  · rw [List.length_append]
    omega
  · have hcases : b ∈ rest ∨ b ∈ front ++ back ∨ b ∈ tail := by
      simpa [or_assoc] using hb
    rcases hcases with hb | hb | hb
    · exact hrest b hb
    · exact hclean b hb
    · exact htail b hb

/-- An element of a list around an optional one is not the optional one if it stands elsewhere. -/
theorem mem_append_of_getElem?_around {α : Type} {front back : List α} {o : Option α} {j : Nat} {b : α}
    (h : (front ++ o.toList ++ back)[j]? = some b) (hj : o = none ∨ j ≠ front.length) :
    b ∈ front ++ back := by
  cases o with
  | none => simpa using List.mem_of_getElem? h
  | some a =>
    have hne : j ≠ front.length := hj.resolve_left nofun
    rcases Nat.lt_or_gt_of_ne hne with hlt | hgt
    · have hfront : front[j]? = some b := by simpa [List.getElem?_append_left, hlt] using h
      exact List.mem_append_left _ (List.mem_of_getElem? hfront)
    · obtain ⟨d, rfl⟩ := Nat.exists_eq_add_of_lt hgt
      have hback : back[d]? = some b := by simpa [Nat.add_assoc, List.getElem?_append_right] using h
      exact List.mem_append_right _ (List.mem_of_getElem? hback)

theorem le_of_isChannel {ch : Byte} (h : isChannel ch = true) : ch.toNat ≤ 0x7F := by
  have h24 : ch.toNat < 24 := of_decide_eq_true h
  omega

/-- A host that keeps its duties passes only clean bytes through: a channel is below 24 and a subroutine
byte is clean (rule R130). -/
theorem passThrough_le_of_hostDuties {i : Instr} {b : Byte} (hd : i.hostDuties = true)
    (hb : i.passThrough? = some b) : b.toNat ≤ 0x7F := by
  cases i with
  | setTarget | setSpeed | setAccel =>
    cases hb
    exact le_of_isChannel (Bool.and_eq_true_iff.1 hd).1
  | setPwm =>
    cases hb
    exact le_of_isChannel (Bool.and_eq_true_iff.1 (Bool.and_eq_true_iff.1 hd).1).1
  | getPosition => cases hb; exact le_of_isChannel hd
  | setMultipleTargets start vals =>
    cases hb
    have h24 : b.toNat + vals.length ≤ 24 := of_decide_eq_true (Bool.and_eq_true_iff.1 hd).1
    omega
  | restartScript => cases hb; exact of_decide_eq_true hd
  | restartScriptParam => cases hb; exact of_decide_eq_true (Bool.and_eq_true_iff.1 hd).1
  | _ => cases hb

/-- Settles O19: each clause reads one part of the frame's shape, `encodeFrame_split`. -/
theorem frameBytesKeepTheTopBitConvention : Obligations.FrameBytesKeepTheTopBitConvention := by
  intro p f i c w hwf hc hw
  obtain ⟨first, front, back, rfl, haddressed, hcompact, hplace, hclean⟩ :=
    encodeFrame_split hwf hc hw
  have elsewhere_le (k : Nat) (b : Byte)
      (hk : (first :: (front ++ i.passThrough?.toList ++ back))[k]? = some b) (h0 : k ≠ 0)
      (hplaced : i.passThrough? = none ∨ k ≠ preambleLength f + passThroughOffset c) :
      b.toNat ≤ 0x7F := by
    obtain ⟨j, rfl⟩ := Nat.exists_eq_succ_of_ne_zero h0
    exact hclean b (mem_append_of_getElem?_around hk (hplaced.imp_right (by omega)))
  have passThrough_at (b : Byte) (hb : i.passThrough? = some b) :
      (first :: (front ++ i.passThrough?.toList ++ back))[preambleLength f + passThroughOffset c]? =
        some b := by
    simp [← hplace, hb]
  refine ⟨fun hm => congrArg some (haddressed hm), fun hm => congrArg some (hcompact hm),
    passThrough_at, elsewhere_le, ?_⟩
  intro hd k b hk h0
  cases hpass : i.passThrough? with
  | none => exact elsewhere_le k b hk h0 (.inl hpass)
  | some a =>
    by_cases hplaced : k = preambleLength f + passThroughOffset c
    · have hab : a = b := Option.some.inj ((passThrough_at a hpass).symm.trans (hplaced ▸ hk))
      exact hab ▸ passThrough_le_of_hostDuties hd hpass
    · exact elsewhere_le k b hk h0 (.inr hplaced)

end Sys2Proof.Machine

/-! ## The CRC-7 generator

One law per function of Machine/Crc.lean, from the bit step up to the trailer value (rules R60 to R66). -/

namespace Sys2Proof.Machine

/-! ### The bit step -/

theorem getLsbD_zero_eq_decide_odd (v : Byte) : v.getLsbD 0 = decide (v.toNat % 2 = 1) :=
  Nat.testBit_zero v.toNat

/-- The bit step as arithmetic (rule R60). -/
theorem crcStep_toNat (poly v : Byte) :
    (crcStep poly v).toNat = (if v.toNat % 2 = 1 then (v ^^^ poly).toNat else v.toNat) / 2 := by
  rw [crcStep, getLsbD_zero_eq_decide_odd, BitVec.toNat_ushiftRight, Nat.shiftRight_eq_div_pow]
  by_cases hodd : v.toNat % 2 = 1 <;> simp [hodd]

/-- The shift leaves bit 7 clear on both branches. -/
theorem crcStep_le (poly v : Byte) : (crcStep poly v).toNat ≤ 0x7F := by
  have hxor := (v ^^^ poly).isLt
  have hv := v.isLt
  rw [crcStep_toNat]
  split <;> omega

/-! ### The table and its image -/

theorem crcTable_eq_iterate (poly i : Byte) : crcTable poly i = Nat.iterate (crcStep poly) 8 i := rfl

@[simp] theorem crcRom_length (poly : Byte) : (crcRom poly).length = 256 := by
  rw [crcRom, List.length_map, List.length_range]

/-- Every byte is a legal index of the image, and reading there gives the table's value (rule R61). -/
@[simp] theorem crcRom_getElem?_toNat (poly i : Byte) :
    (crcRom poly)[i.toNat]? = some (crcTable poly i) := by
  have hi : i.toNat < 256 := i.isLt
  rw [crcRom, List.getElem?_map, List.getElem?_range hi, Option.map_some, BitVec.ofNat_toNat,
    BitVec.setWidth_eq]

/-! ### The fold -/

@[simp] theorem crc7_nil (poly prev : Byte) : crc7 poly prev [] = prev := rfl

@[simp] theorem crc7_cons (poly prev b : Byte) (rest : List Byte) :
    crc7 poly prev (b :: rest) = crc7 poly (crcTable poly (prev ^^^ b)) rest := rfl

/-- The checksum folds reads of the table's image, none of which misses (rules R62, R63). -/
theorem foldlM_crcRom_eq_crc7 (poly prev : Byte) (xs : List Byte) :
    xs.foldlM (fun acc b => (crcRom poly)[(acc ^^^ b).toNat]?) prev = some (crc7 poly prev xs) := by
  induction xs generalizing prev with
  | nil => rfl
  | cons b rest ih =>
    rw [List.foldlM_cons, crcRom_getElem?_toNat, Option.bind_eq_bind, Option.bind_some, ih, crc7_cons]

/-! ### The trailer value -/

theorem trail_eq_ofNat_mod (poly : Byte) (xs : List Byte) :
    trail poly xs = BitVec.ofNat 8 ((crc7 poly 0#8 xs).toNat % 128) :=
  and_7F_eq_ofNat_mod _

theorem trail_toNat (poly : Byte) (xs : List Byte) :
    (trail poly xs).toNat = (crc7 poly 0#8 xs).toNat % 128 := by
  rw [trail_eq_ofNat_mod, BitVec.toNat_ofNat]
  omega

theorem trail_le (poly : Byte) (xs : List Byte) : (trail poly xs).toNat ≤ 0x7F :=
  and_7F_le _

/-! ### The settled obligations -/

/-- Settles O1: the step as arithmetic and its bound; the worked steps run the model. -/
theorem crcStepXorsOnLowBitThenShifts : Obligations.CrcStepXorsOnLowBitThenShifts :=
  ⟨fun poly v => ⟨crcStep_toNat poly v, crcStep_le poly v⟩, by decide, by decide⟩

/-- Settles O2: a read of the image is the table's value, which is the iterated step; the worked entries
are two such reads. -/
theorem crcTableHoldsEightStepsOfEachIndex : Obligations.CrcTableHoldsEightStepsOfEachIndex := by
  have entry (poly i : Byte) :
      (crcRom poly)[i.toNat]? = some (Nat.iterate (crcStep poly) 8 i) := by
    rw [crcRom_getElem?_toNat, crcTable_eq_iterate]
  have worked_01 : crcTable 0x91#8 0x01 = 0x41 := by decide
  have worked_83 : crcTable 0x91#8 0x83 = 0x1A := by decide
  exact ⟨fun poly => ⟨crcRom_length poly, entry poly⟩,
    worked_01 ▸ crcRom_getElem?_toNat 0x91#8 0x01, worked_83 ▸ crcRom_getElem?_toNat 0x91#8 0x83⟩

/-- Settles O3: the fold by induction on the bytes, one update by the table's eight steps. -/
theorem checksumFoldsTableReads : Obligations.ChecksumFoldsTableReads := by
  refine ⟨fun poly prev xs => (foldlM_crcRom_eq_crc7 poly prev xs).symm, ?_, crc7_nil,
    fun poly => crc7_nil poly 0#8, by decide, by decide +kernel⟩
  intro poly acc b
  rw [crc7_cons, crc7_nil, crcTable_eq_iterate]

/-- Settles O4: the mask is the remainder modulo 128. -/
theorem trailerIsChecksumModulo128 : Obligations.TrailerIsChecksumModulo128 := by
  refine ⟨fun poly xs => ⟨trail_toNat poly xs, trail_le poly xs⟩, fun poly => ?_, by decide +kernel⟩
  rw [trail_eq_ofNat_mod, crc7_nil]
  rfl

end Sys2Proof.Machine

/-! ## The 14-bit codec

The splitter and the two recombiners as arithmetic on naturals (rules R70 to R75): a byte of ENC14 is a
remainder modulo 128, DEC14 and DEC16 are sums no byte pair carries out of 16 bits. -/

namespace Sys2Proof.Machine

/-! ### The splitter -/

theorem lowByte_eq_ofNat (v : Word) : lowByte v = BitVec.ofNat 8 (v.toNat % 128) := by
  apply BitVec.eq_of_toNat_eq
  have hmask : (v &&& 0x7F#16).toNat = v.toNat % 128 := Nat.and_two_pow_sub_one_eq_mod v.toNat 7
  rw [lowByte, BitVec.toNat_setWidth, hmask, BitVec.toNat_ofNat]

/-- The high byte is the low byte of the value without its low seven bits. -/
theorem highByte_eq_lowByte (v : Word) : highByte v = lowByte (v >>> 7) := rfl

theorem highByte_eq_ofNat (v : Word) : highByte v = BitVec.ofNat 8 (v.toNat / 128 % 128) := by
  rw [highByte_eq_lowByte, lowByte_eq_ofNat, BitVec.toNat_ushiftRight, Nat.shiftRight_eq_div_pow]

theorem enc14_eq_ofNat (v : Word) :
    enc14 v = [BitVec.ofNat 8 (v.toNat % 128), BitVec.ofNat 8 (v.toNat / 128 % 128)] := by
  rw [enc14, lowByte_eq_ofNat, highByte_eq_ofNat]

/-! ### The recombiners -/

/-- A byte moved up by at most eight places stays inside a 16-bit word. -/
theorem setWidth_shiftLeft_toNat (b : Byte) {k : Nat} (hk : k ≤ 8) :
    (b.setWidth 16 <<< k).toNat = 2 ^ k * b.toNat := by
  have hb := b.isLt
  have hpow : 2 ^ k ≤ 2 ^ 8 := Nat.pow_le_pow_right (by decide) hk
  have hlt : b.toNat * 2 ^ k < 2 ^ 16 := by
    calc b.toNat * 2 ^ k ≤ 255 * 2 ^ 8 := Nat.mul_le_mul (by omega) hpow
      _ < 2 ^ 16 := by decide
  rw [BitVec.toNat_shiftLeft, BitVec.toNat_setWidth_of_le (by decide), Nat.shiftLeft_eq,
    Nat.mod_eq_of_lt hlt, Nat.mul_comm]

theorem dec14_toNat (lo hi : Byte) : (dec14 lo hi).toNat = lo.toNat + 128 * hi.toNat := by
  have hlo := lo.isLt
  have hhi := hi.isLt
  rw [dec14, BitVec.toNat_add, BitVec.toNat_setWidth_of_le (by decide),
    setWidth_shiftLeft_toNat hi (by decide)]
  omega

theorem dec16_toNat (lo hi : Byte) : (dec16 lo hi).toNat = lo.toNat + 256 * hi.toNat := by
  have hlo := lo.isLt
  have hhi := hi.isLt
  rw [dec16, BitVec.toNat_add, BitVec.toNat_setWidth_of_le (by decide),
    setWidth_shiftLeft_toNat hi (by decide)]
  omega

/-- Unmasked bytes take DEC14 past 14 bits, but not far (rule R71). -/
theorem dec14_le (lo hi : Byte) : (dec14 lo hi).toNat ≤ 32895 := by
  have hlo := lo.isLt
  have hhi := hi.isLt
  rw [dec14_toNat]
  omega

theorem dec14_le_of_clean {lo hi : Byte} (hlo : lo.toNat ≤ 0x7F) (hhi : hi.toNat ≤ 0x7F) :
    (dec14 lo hi).toNat ≤ 0x3FFF := by
  rw [dec14_toNat]
  omega

/-- The two sums differ by 128 times the second byte. -/
theorem dec14_eq_dec16_iff (lo hi : Byte) : dec14 lo hi = dec16 lo hi ↔ hi = 0#8 := by
  rw [← BitVec.toNat_inj, dec14_toNat, dec16_toNat, ← BitVec.toNat_inj, BitVec.toNat_ofNat]
  omega

/-- A clean low byte shares no bit with the shifted high byte, so nothing carries, whatever the high
byte is. -/
theorem dec14_eq_or_of_clean {lo : Byte} (hlo : lo.toNat ≤ 0x7F) (hi : Byte) :
    dec14 lo hi = lo.setWidth 16 ||| (hi.setWidth 16 <<< 7) := by
  have hlt : lo.toNat < 2 ^ 7 := by omega
  apply BitVec.eq_of_toNat_eq
  calc (dec14 lo hi).toNat
      = 2 ^ 7 * hi.toNat + lo.toNat := by rw [dec14_toNat]; omega
    _ = lo.toNat ||| 2 ^ 7 * hi.toNat := by rw [Nat.two_pow_add_eq_or_of_lt hlt, Nat.or_comm]
    _ = (lo.setWidth 16 ||| (hi.setWidth 16 <<< 7)).toNat := by
      rw [BitVec.toNat_or, BitVec.toNat_setWidth_of_le (by decide),
        setWidth_shiftLeft_toNat hi (by decide)]

/-- DEC16 puts the two halves of a word together again, so it reaches every word (rule R73). -/
theorem dec16_halves (w : Word) : dec16 (w.setWidth 8) ((w >>> 8).setWidth 8) = w := by
  have hw := w.isLt
  apply BitVec.eq_of_toNat_eq
  rw [dec16_toNat, BitVec.toNat_setWidth, BitVec.toNat_setWidth, BitVec.toNat_ushiftRight,
    Nat.shiftRight_eq_div_pow]
  omega

/-! ### The settled obligations -/

/-- Settles O14: both sums are exact, the other facts follow from the sums; the examples run the model. -/
theorem recombinersAreExactAndDiffer : Obligations.RecombinersAreExactAndDiffer := by
  refine ⟨fun lo hi => ⟨dec14_toNat lo hi, dec14_le lo hi, dec16_toNat lo hi, dec14_eq_dec16_iff lo hi,
    fun hlo hhi => ⟨dec14_le_of_clean hlo hhi, dec14_eq_or_of_clean hlo hi⟩⟩,
    fun w => ⟨_, _, dec16_halves w⟩, ?_⟩
  decide

/-- Settles O12: the two masks are remainders modulo 128, of the value and of its quotient; the examples
run the model. -/
theorem enc14SplitsIntoTwoSevens : Obligations.Enc14SplitsIntoTwoSevens :=
  ⟨enc14_eq_ofNat, by decide⟩

/-- Settles O13: a byte of ENC14 is a seven-bit field under a clear top bit. -/
theorem enc14BytesAreSevenBitClean : Obligations.Enc14BytesAreSevenBitClean :=
  fun _ _ => enc14_le

end Sys2Proof.Machine

/-! ## The device-wide commands

What the commands without a channel byte put on the wire and how the host reads their replies (rules R81
to R87): each is the common step with its body, and its reply is decoded by the codec or by a test. -/

namespace Sys2Proof.Machine

/-! ### A command on a block that accepts it -/

/-- On a created block that is owed no reply, every command but the empty batch completes, with the
burst of its body and the reply length of the table (rules R48, R80). -/
theorem exec_command_effect {i : Instr} {c : Command} (hc : i.command? = some c)
    (hne : ∀ start, i ≠ .setMultipleTargets start []) {s : State} (hr : s.ready = true)
    (hp : s.pending = 0) :
    ∃ t, exec i s = .next t ∧ CommandEffect s t (s.frameOf c (commandBody i)) (replyBytes c) := by
  rw [exec_command hc hne]
  exact runCommand_accepted c (commandBody i) (replyBytes c) hr hp

/-! ### The body with a value -/

/-- ENC14 in the arithmetic the statements use. -/
theorem enc14_eq_valueBytes (v : Word) : enc14 v = valueBytes v := enc14_eq_ofNat v

theorem commandBody_restartScriptParam (sub : Byte) (val : Word) :
    commandBody (.restartScriptParam sub val) = sub :: valueBytes val :=
  congrArg (sub :: ·) (enc14_eq_valueBytes val)

/-! ### The replies -/

theorem movingReply_eq_decide (m : Byte) : movingReply m = decide (m ≠ 0#8) := by
  by_cases hm : m = 0#8 <;> simp [movingReply, hm]

theorem runningReply_eq_decide (b : Byte) : runningReply b = decide (b = 0#8) := by
  by_cases hb : b = 0#8 <;> simp [runningReply, hb]

theorem dec14_eq_ofNat (lo hi : Byte) : dec14 lo hi = BitVec.ofNat 16 (lo.toNat + 128 * hi.toNat) := by
  rw [← dec14_toNat, BitVec.ofNat_toNat, BitVec.setWidth_eq]

theorem decodeReply_getMovingState (m : Byte) :
    decodeReply .getMovingState [m] = some (.moving (decide (m ≠ 0#8))) :=
  congrArg (some ∘ Reply.moving) (movingReply_eq_decide m)

theorem decodeReply_getScriptStatus (b : Byte) :
    decodeReply .getScriptStatus [b] = some (.running (decide (b = 0#8))) :=
  congrArg (some ∘ Reply.running) (runningReply_eq_decide b)

/-- The error reply goes through DEC14, not through DEC16 (rule R82). -/
theorem decodeReply_getErrors (e0 e1 : Byte) :
    decodeReply .getErrors [e0, e1] =
      some (.errors (BitVec.ofNat 16 (e0.toNat + 128 * e1.toNat))) :=
  congrArg (some ∘ Reply.errors) (dec14_eq_ofNat e0 e1)

/-! ### The settled obligations -/

/-- Settles O24: both are the common step with an empty body and no reply; the worked frames run the
model. -/
theorem homeAndStopScriptSendTheirCode : Obligations.HomeAndStopScriptSendTheirCode := by
  refine ⟨fun s hr hp => ⟨?goHome, ?stopScript⟩, by decide +kernel, by decide +kernel⟩
  case goHome => exact exec_command_effect (i := .goHome) rfl nofun hr hp
  case stopScript => exact exec_command_effect (i := .stopScript) rfl nofun hr hp

/-- Settles O25: each query is the common step with an empty body and the table's reply length; the
replies are decoded one by one; the worked frames run the model. -/
theorem deviceQueriesSendCodeAndOweReply : Obligations.DeviceQueriesSendCodeAndOweReply := by
  refine ⟨fun s hr hp => ⟨?getMovingState, ?getErrors, ?getScriptStatus⟩,
    fun m => ⟨decodeReply_getMovingState m, decodeReply_getScriptStatus m⟩, decodeReply_getErrors,
    by decide +kernel, by decide +kernel, by decide +kernel⟩
  case getMovingState => exact exec_command_effect (i := .getMovingState) rfl nofun hr hp
  case getErrors => exact exec_command_effect (i := .getErrors) rfl nofun hr hp
  case getScriptStatus => exact exec_command_effect (i := .getScriptStatus) rfl nofun hr hp

/-- Settles O26: both are the common step; the body is the bare byte, or the byte and the two sevens of
ENC14; the worked frames run the model. -/
theorem restartScriptSendsSubroutineAndValue : Obligations.RestartScriptSendsSubroutineAndValue := by
  refine ⟨fun s sub val hr hp => ⟨?restartScript, ?restartScriptParam⟩, by decide +kernel,
    by decide +kernel⟩
  case restartScript => exact exec_command_effect (i := .restartScript sub) rfl nofun hr hp
  case restartScriptParam =>
    rw [← commandBody_restartScriptParam]
    exact exec_command_effect (i := .restartScriptParam sub val) rfl nofun hr hp

end Sys2Proof.Machine

/-! ## The per-channel commands

What the commands with a channel byte put on the wire and how the host reads the position (rules R90 to
R95): each is the common step with the channel byte, unchanged, ahead of its value pairs. -/

namespace Sys2Proof.Machine

/-! ### The bodies with values -/

/-- Format C1V in the arithmetic the statements use (rule R47). -/
theorem bodyC1V_eq_valueBytes (ch : Byte) (v : Word) : bodyC1V ch v = ch :: valueBytes v :=
  congrArg (ch :: ·) (enc14_eq_valueBytes v)

/-- Format C2V in the arithmetic the statements use: the on-time pair first (rules R47, R94). -/
theorem bodyC2V_eq_valueBytes (ch : Byte) (on per : Word) :
    bodyC2V ch on per = ch :: (valueBytes on ++ valueBytes per) :=
  congrArg₂ (fun onPair perPair => ch :: (onPair ++ perPair)) (enc14_eq_valueBytes on)
    (enc14_eq_valueBytes per)

/-! ### The reply -/

theorem dec16_eq_ofNat (lo hi : Byte) : dec16 lo hi = BitVec.ofNat 16 (lo.toNat + 256 * hi.toNat) := by
  rw [← dec16_toNat, BitVec.ofNat_toNat, BitVec.setWidth_eq]

/-- The position reply goes through DEC16: its bytes are not a 14-bit pair (rule R95). -/
theorem decodeReply_getPosition (p0 p1 : Byte) :
    decodeReply .getPosition [p0, p1] =
      some (.position (BitVec.ofNat 16 (p0.toNat + 256 * p1.toNat))) :=
  congrArg (some ∘ Reply.position) (dec16_eq_ofNat p0 p1)

/-! ### The settled obligations -/

/-- Settles O27: the three are the common step with one body, the channel byte and the two sevens of
ENC14, and no reply; the worked frames run the model. -/
theorem channelValueCommandsSendChannelAndValue :
    Obligations.ChannelValueCommandsSendChannelAndValue := by
  refine ⟨fun s ch v hr hp => ?effects, by decide +kernel, by decide +kernel, by decide +kernel⟩
  rw [← bodyC1V_eq_valueBytes]
  refine ⟨?setTarget, ?setSpeed, ?setAccel⟩
  case setTarget => exact exec_command_effect (i := .setTarget ch v) rfl nofun hr hp
  case setSpeed => exact exec_command_effect (i := .setSpeed ch v) rfl nofun hr hp
  case setAccel => exact exec_command_effect (i := .setAccel ch v) rfl nofun hr hp

/-- Settles O28: the common step with the channel byte and the two pairs of ENC14, and no reply; the
worked frames run the model. -/
theorem setPwmSendsChannelOnTimePeriod : Obligations.SetPwmSendsChannelOnTimePeriod := by
  refine ⟨fun s ch on per hr hp => ?effect, by decide +kernel⟩
  rw [← bodyC2V_eq_valueBytes]
  exact exec_command_effect (i := .setPwm ch on per) rfl nofun hr hp

/-- Settles O29: the common step with the bare channel byte and the table's two reply bytes, which DEC16
puts together; the worked frames run the model. -/
theorem getPositionSendsChannelAndOwesTwoBytes :
    Obligations.GetPositionSendsChannelAndOwesTwoBytes :=
  ⟨fun _ ch hr hp => exec_command_effect (i := .getPosition ch) rfl nofun hr hp,
    decodeReply_getPosition, by decide +kernel⟩

end Sys2Proof.Machine

/-! ## The batch command

What SET_MULTIPLE_TARGETS does with a list of values (rules R100, R101): with at least one value it is
the common step with the count, the start channel and the pairs in order; with none it runs the
acceptance tests alone. -/

namespace Sys2Proof.Machine

/-- Format M in the arithmetic the statements use: the pairs follow in the order of the values
(rules R47, R100). -/
theorem bodyM_eq_valueBytes (start : Byte) (vals : List Word) :
    bodyM start vals = BitVec.ofNat 8 vals.length :: start :: (vals.map valueBytes).flatten := by
  have hpairs : vals.flatMap enc14 = (vals.map valueBytes).flatten := by
    rw [funext enc14_eq_valueBytes, List.flatMap_def]
  rw [bodyM, hpairs]
  rfl

/-! ### The settled obligations -/

/-- Settles O30: a batch with a value is not the empty one, so it is the common step with the body of
format M and no reply; the worked frames run the model. -/
theorem batchSendsCountStartAndValuesInOrder : Obligations.BatchSendsCountStartAndValuesInOrder := by
  refine ⟨fun s start vals hr hp hpos _ => ?effect, by decide +kernel⟩
  have hne : ∀ start', Instr.setMultipleTargets start vals ≠ .setMultipleTargets start' [] := by
    rintro start' ⟨⟩
    cases hpos
  rw [← bodyM_eq_valueBytes]
  exact exec_command_effect (i := .setMultipleTargets start vals) rfl hne hr hp

/-- Settles O31, by the three answers of the acceptance tests. -/
theorem emptyBatchIsANoOpSuccess : Obligations.EmptyBatchIsANoOpSuccess := by
  intro s start
  rw [exec_emptyBatch]
  rcases runEmptyCommand_cases s with ⟨hr, answered⟩ | ⟨hr, hp, answered⟩ | ⟨hr, hp, answered⟩
  · simp [hr, answered]
  · simp [hr, hp, answered]
  · simp [hr, hp, answered]

end Sys2Proof.Machine

/-! ## The refusals

When an operation is refused (rule R111): commands by READY and then by PENDING, the host event and the
creation by READY alone, the primitives never. Each refusal has its reason, and what is not refused
answers a next state. -/

namespace Sys2Proof.Machine

/-! ### The commands -/

/-- A command presented while a reply is owed is refused (rules R111, R124). -/
theorem exec_command_of_pending {i : Instr} {s : State} (hi : i.isCommand = true)
    (hr : s.ready = true) (hp : s.pending ≠ 0) : exec i s = .refused .replyOutstanding := by
  obtain ⟨c, hc⟩ := Option.isSome_iff_exists.1 hi
  rcases exec_command_cases hc with e | ⟨start, rfl⟩
  · simp [e, runCommand, commandWith, commandRefusal_of_pending hr hp]
  · simp [exec_emptyBatch, runEmptyCommand, commandRefusal_of_pending hr hp]

/-- A command, the empty batch included, completes on a created block that is owed no reply. -/
theorem exec_command_completes {i : Instr} {s : State} (hi : i.isCommand = true)
    (hr : s.ready = true) (hp : s.pending = 0) : ∃ t, exec i s = .next t := by
  obtain ⟨c, hc⟩ := Option.isSome_iff_exists.1 hi
  rcases exec_command_cases hc with e | ⟨start, rfl⟩
  · exact ⟨_, (e s).trans (commandWith_accepted Config.params c _ _ hr hp)⟩
  · exact ⟨s, by simp [exec_emptyBatch, runEmptyCommand, (commandRefusal_eq_none_iff s).2 ⟨hr, hp⟩]⟩

/-! ### The creation and the host event -/

/-- Creation happens once per reset (rule R122). -/
theorem exec_init_of_ready (addr : DeviceAddress) (mode : Mode) (crc : Bool) {s : State}
    (hr : s.ready = true) : exec (.init addr mode crc) s = .refused .alreadyCreated := by
  rcases createWith_cases Config.params addr mode crc s with ⟨-, e⟩ | ⟨hr', -⟩
  · exact e
  · cases hr.symm.trans hr'

/-- REPLY_DONE presented before INIT is refused (rules R111, R124). -/
theorem exec_replyDone_of_not_ready {s : State} (hr : s.ready = false) :
    exec .replyDone s = .refused .notCreated := by
  rcases endReply_cases s with ⟨-, e⟩ | ⟨hr', -⟩
  · exact e
  · cases hr.symm.trans hr'

/-- REPLY_DONE on a created block clears PENDING, whatever it was (rule R124). -/
theorem exec_replyDone_of_ready {s : State} (hr : s.ready = true) :
    exec .replyDone s = .next { s with pending := 0 } := by
  rcases endReply_cases s with ⟨hr', -⟩ | ⟨-, e⟩
  · cases hr.symm.trans hr'
  · exact e

/-! ### Nothing else is refused -/

/-- Every operation answers a next state, unless one of the three conditions of rule R111 holds. -/
theorem exec_next_or_refusal_condition (s : State) (i : Instr) :
    (∃ t, exec i s = .next t) ∨
    ((i.isCommand = true ∨ i = .replyDone) ∧ s.ready = false) ∨
    (i.isCommand = true ∧ s.ready = true ∧ s.pending ≠ 0) ∨
    (∃ addr mode crc, i = .init addr mode crc ∧ s.ready = true) := by
  cases hc : i.command? with
  | some c =>
    have hi : i.isCommand = true := Option.isSome_iff_exists.2 ⟨c, hc⟩
    cases hr : s.ready with
    | false => exact .inr (.inl ⟨.inl hi, rfl⟩)
    | true =>
      by_cases hp : s.pending = 0
      · exact .inl (exec_command_completes hi hr hp)
      · exact .inr (.inr (.inl ⟨hi, rfl, hp⟩))
  | none =>
    rcases exec_not_command hc with ⟨addr, mode, crc, rfl⟩ | rfl | ⟨r, e⟩
    · cases hr : s.ready with
      | false => exact .inl ⟨_, exec_init_of_not_ready addr mode crc hr⟩
      | true => exact .inr (.inr (.inr ⟨addr, mode, crc, rfl, rfl⟩))
    · cases hr : s.ready with
      | false => exact .inr (.inl ⟨.inr rfl, rfl⟩)
      | true => exact .inl ⟨_, exec_replyDone_of_ready hr⟩
    · exact .inl ⟨_, e s⟩

/-! ### The settled obligation -/

/-- Settles O39: each condition gives its refusal, and every operation outside them completes. -/
theorem refusalsAreExactlyTheThreeConditions : Obligations.RefusalsAreExactlyTheThreeConditions := by
  intro s i
  refine ⟨?notCreated, exec_command_of_pending, ?alreadyCreated, exec_next_or_refusal_condition s i⟩
  case notCreated =>
    rintro (hi | rfl) hr
    · exact exec_command_of_not_ready hi hr
    · exact exec_replyDone_of_not_ready hr
  case alreadyCreated =>
    rintro addr mode crc rfl hr
    exact exec_init_of_ready addr mode crc hr

end Sys2Proof.Machine

/-! ## Reset, creation and the reply owed

What a block does before it is created (rules R120, R121), and the reply length a command leaves, which
the host event clears (rule R124). -/

namespace Sys2Proof.Machine

/-! ### The reply length -/

/-- A command that answers a next state leaves PENDING at the table's reply length, the empty batch too:
it was accepted with none owed, and a batch expects none (rules R20, R48, R124). -/
theorem exec_command_publishes_replyBytes {i : Instr} {c : Command} {s t : State}
    (hc : i.command? = some c) (h : exec i s = .next t) : t.pending = replyBytes c := by
  rcases exec_next_cases h with ⟨c', hc', -, -, effect⟩ | ⟨start, rfl, -, hp, rfl⟩ |
    ⟨addr, mode, crc, rfl, -, -⟩ | ⟨rfl, -, -⟩ | ⟨hnone, -⟩
  · cases hc.symm.trans hc'
    exact effect.pending
  · cases hc
    exact hp
  · cases hc
  · cases hc
  · cases hc.symm.trans hnone

/-- REPLY_DONE changes nothing on a created block that is owed no reply (rule R124). -/
theorem exec_replyDone_of_none_owed {s : State} (hr : s.ready = true) (hp : s.pending = 0) :
    exec .replyDone s = .next s := by
  rw [exec_replyDone_of_ready hr, ← hp]

/-! ### The configuration registers before creation -/

@[simp] theorem State.withFraming_ready (s : State) (f : Framing) :
    (s.withFraming f).ready = s.ready := rfl

/-- INIT's outcome does not depend on what the configuration registers held: it overwrites all three
(rules R120, R121). -/
theorem exec_init_withFraming (addr : DeviceAddress) (mode : Mode) (crc : Bool) {s : State}
    (hr : s.ready = false) (f : Framing) :
    exec (.init addr mode crc) (s.withFraming f) = exec (.init addr mode crc) s := by
  rw [exec_init_of_not_ready addr mode crc hr,
    exec_init_of_not_ready addr mode crc ((State.withFraming_ready s f).trans hr)]
  rfl

/-- A primitive neither reads nor writes the configuration registers (rule R111). -/
theorem answer_withFraming (r : Returned) (s : State) (f : Framing) :
    answer r (s.withFraming f) = .next ((s.giveBack r).withFraming f) := rfl

/-! ### The settled obligations -/

/-- Settles O35: READY alone decides between creation and refusal; the worked example runs creation at
parameters with the default auto-baud byte. -/
theorem initLatchesConfigurationAndSendsAutobaud :
    Obligations.InitLatchesConfigurationAndSendsAutobaud := by
  refine ⟨fun s addr mode crc =>
    ⟨exec_init_of_not_ready addr mode crc, exec_init_of_ready addr mode crc⟩, ?workedExample⟩
  intro p hp
  rcases createWith_cases p 12 .addressed true State.reset with ⟨hr, -⟩ | ⟨-, e⟩
  · cases hr
  · exact ⟨_, e, rfl, rfl, rfl, rfl, congrArg (fun b => [[b]]) hp, rfl⟩

/-- Settles O36, by the effect of an accepted command and the acceptance tests of the host event and of
the commands. -/
theorem replyMustBeConsumedBeforeTheNextCommand :
    Obligations.ReplyMustBeConsumedBeforeTheNextCommand :=
  ⟨fun _ _ _ _ => exec_command_publishes_replyBytes, fun _ => exec_replyDone_of_ready,
    fun _ => exec_replyDone_of_none_owed, fun _ => exec_replyDone_of_not_ready,
    fun _ _ => exec_command_of_pending⟩

/-- Settles O40: before creation the commands and the host event are refused on READY alone, a primitive
carries the configuration registers along, and INIT overwrites them. -/
theorem resetLeavesTheBlockUncreated : Obligations.ResetLeavesTheBlockUncreated := by
  refine ⟨⟨rfl, rfl, rfl, rfl, rfl⟩, fun s f i hr => ?unread⟩
  have hr' : (s.withFraming f).ready = false := (State.withFraming_ready s f).trans hr
  cases hc : i.command? with
  | some c =>
    have hi : i.isCommand = true := Option.isSome_iff_exists.2 ⟨c, hc⟩
    exact .inl ⟨_, exec_command_of_not_ready hi hr, exec_command_of_not_ready hi hr'⟩
  | none =>
    rcases exec_not_command hc with ⟨addr, mode, crc, rfl⟩ | rfl | ⟨r, e⟩
    · have accepted := exec_init_of_not_ready addr mode crc hr
      exact .inr (.inr ⟨addr, mode, crc, _, rfl, accepted,
        (exec_init_withFraming addr mode crc hr f).trans accepted⟩)
    · exact .inl ⟨_, exec_replyDone_of_not_ready hr, exec_replyDone_of_not_ready hr'⟩
    · exact .inr (.inl ⟨s.giveBack r, e s, (e _).trans (answer_withFraming r s f), rfl⟩)

end Sys2Proof.Machine

/-! ## The algebra of the checksum

What 40_crc7.md section 3 derives from the bit step: every entry is 7-bit-clean, bit 0 of the polynomial
is shifted out, and step, table and checksum are linear over exclusive-or. -/

namespace Sys2Proof.Machine

/-! ### Clean entries and clean checksums -/

theorem crcTable_le (poly i : Byte) : (crcTable poly i).toNat ≤ 0x7F := crcStep_le poly _

/-- The fold ends in a table entry, or is over no byte and leaves the seed. -/
theorem crc7_le_of_clean {poly prev : Byte} (h : prev.toNat ≤ 0x7F) (xs : List Byte) :
    (crc7 poly prev xs).toNat ≤ 0x7F := by
  induction xs generalizing prev with
  | nil => exact h
  | cons b rest ih => exact ih (crcTable_le poly _)

theorem crc7_cons_le (poly prev b : Byte) (rest : List Byte) :
    (crc7 poly prev (b :: rest)).toNat ≤ 0x7F :=
  crc7_le_of_clean (crcTable_le poly _) rest

/-- The mask of the trailer is idle: the checksum it is put on is clean. -/
theorem trail_eq_crc7 (poly : Byte) (xs : List Byte) : trail poly xs = crc7 poly 0#8 xs := by
  have hclean : (crc7 poly 0#8 xs).toNat ≤ 0x7F := crc7_le_of_clean (by decide) xs
  apply BitVec.eq_of_toNat_eq
  rw [trail_toNat]
  omega

theorem crcStep_zero (poly : Byte) : crcStep poly 0#8 = 0#8 := by simp [crcStep]

theorem crcTable_zero (poly : Byte) : crcTable poly 0#8 = 0#8 := by simp [crcTable, crcStep_zero]

/-! ### The polynomial's low bit -/

/-- The equivalent form of the step: shift, then exclusive-or with the shifted polynomial. -/
theorem crcStep_eq_shift_xor (poly v : Byte) :
    crcStep poly v = (v >>> 1) ^^^ (if v.toNat % 2 = 1 then poly >>> 1 else 0#8) := by
  rw [crcStep, getLsbD_zero_eq_decide_odd]
  by_cases hodd : v.toNat % 2 = 1 <;> simp [hodd, BitVec.ushiftRight_xor_distrib]

/-- The step reads the polynomial only after the shift, so everything built on it does. -/
theorem crcStep_congr {poly poly' : Byte} (h : poly >>> 1 = poly' >>> 1) :
    crcStep poly = crcStep poly' :=
  funext fun v => by rw [crcStep_eq_shift_xor, crcStep_eq_shift_xor, h]

theorem crcTable_congr {poly poly' : Byte} (h : poly >>> 1 = poly' >>> 1) :
    crcTable poly = crcTable poly' :=
  funext fun i => by rw [crcTable_eq_iterate, crcTable_eq_iterate, crcStep_congr h]

theorem crc7_congr {poly poly' : Byte} (h : crcTable poly = crcTable poly') (prev : Byte)
    (xs : List Byte) : crc7 poly prev xs = crc7 poly' prev xs := by
  induction xs generalizing prev with
  | nil => rfl
  | cons b rest ih => rw [crc7_cons, crc7_cons, h, ih]

theorem frame_congr {poly poly' : Byte} (h : crcTable poly = crcTable poly') (f : Framing) (op : Byte)
    (body : List Byte) : frame poly f op body = frame poly' f op body := by
  simp only [frame, trail, crc7_congr h]

theorem ushiftRight_xor_one (poly : Byte) : (poly ^^^ 1#8) >>> 1 = poly >>> 1 := by
  rw [BitVec.ushiftRight_xor_distrib, show (1#8 : Byte) >>> 1 = 0#8 by decide, BitVec.xor_zero]

/-! ### Linearity -/

theorem xor_xor_xor_comm_byte (a b c d : Byte) :
    (a ^^^ b) ^^^ (c ^^^ d) = (a ^^^ c) ^^^ (b ^^^ d) := by ac_rfl

/-- The polynomial is put on once for each odd argument, so on two odd ones it cancels, and their
exclusive-or is even. -/
theorem crcStep_xor (poly a b : Byte) :
    crcStep poly (a ^^^ b) = crcStep poly a ^^^ crcStep poly b := by
  simp only [crcStep, BitVec.getLsbD_xor, ← BitVec.ushiftRight_xor_distrib]
  congr 1
  cases a.getLsbD 0 <;> cases b.getLsbD 0
  case false.false => rfl
  case false.true => exact BitVec.xor_assoc a b poly
  case true.false => simp only [Bool.xor_false, if_true]; ac_rfl
  case true.true => simp [xor_xor_xor_comm_byte a poly b poly]

theorem crcTable_xor (poly a b : Byte) :
    crcTable poly (a ^^^ b) = crcTable poly a ^^^ crcTable poly b := by
  simp only [crcTable, crcStep_xor]

/-- Seeds included: one update takes the exclusive-or of seeds and bytes to that of the results. -/
theorem crc7_xor (poly p q : Byte) {xs ys : List Byte} (h : xs.length = ys.length) :
    crc7 poly (p ^^^ q) (List.zipWith (· ^^^ ·) xs ys) = crc7 poly p xs ^^^ crc7 poly q ys := by
  induction xs generalizing p q ys with
  | nil => cases ys with
    | nil => rfl
    | cons => cases h
  | cons x xs ih => cases ys with
    | nil => cases h
    | cons y ys =>
      have hlen : xs.length = ys.length := Nat.succ.inj h
      rw [List.zipWith_cons_cons, crc7_cons, crc7_cons, crc7_cons, xor_xor_xor_comm_byte,
        crcTable_xor, ih _ _ hlen]

/-- A byte as its set bits, each a byte of its own. -/
def setBits (i : Byte) : List Byte :=
  ((List.range 8).filter i.getLsbD).map (1#8 <<< ·)

theorem foldr_xor_setBits : ∀ i : Byte, (setBits i).foldr (· ^^^ ·) 0#8 = i := by decide +kernel

/-- A linear function of a byte is determined by its values at the eight single bits. -/
theorem eq_of_xor_of_eq_single_bits {g g' : Byte → Byte} (hg : ∀ a b, g (a ^^^ b) = g a ^^^ g b)
    (hg' : ∀ a b, g' (a ^^^ b) = g' a ^^^ g' b)
    (h : ∀ k : Nat, k < 8 → g (1#8 <<< k) = g' (1#8 <<< k)) (i : Byte) : g i = g' i := by
  have map_zero {u : Byte → Byte} (hu : ∀ a b, u (a ^^^ b) = u a ^^^ u b) : u 0#8 = 0#8 := by
    simpa using hu 0#8 0#8
  have agree (l : List Nat) (hl : ∀ k ∈ l, k < 8) :
      g ((l.map (1#8 <<< ·)).foldr (· ^^^ ·) 0#8) = g' ((l.map (1#8 <<< ·)).foldr (· ^^^ ·) 0#8) := by
    induction l with
    | nil => exact (map_zero hg).trans (map_zero hg').symm
    | cons k l ih =>
      rw [List.forall_mem_cons] at hl
      rw [List.map_cons, List.foldr_cons, hg, hg', h k hl.1, ih hl.2]
  rw [← foldr_xor_setBits i]
  exact agree _ fun k hk => List.mem_range.1 (List.mem_filter.1 hk).1

/-! ### Concatenation and residue -/

theorem crc7_append (poly prev : Byte) (xs ys : List Byte) :
    crc7 poly prev (xs ++ ys) = crc7 poly (crc7 poly prev xs) ys := by
  induction xs generalizing prev with
  | nil => rfl
  | cons b rest ih => exact ih _

/-- The seed only ever meets the first byte. -/
theorem crc7_cons_eq_zero_seed (poly prev b : Byte) (rest : List Byte) :
    crc7 poly prev (b :: rest) = crc7 poly 0#8 ((prev ^^^ b) :: rest) := by
  rw [crc7_cons, crc7_cons, BitVec.zero_xor]

/-- The trailer meets an accumulator equal to it, and entry 0 is 0. -/
theorem crc7_append_trail (poly : Byte) (xs : List Byte) :
    crc7 poly 0#8 (xs ++ [trail poly xs]) = 0#8 := by
  rw [crc7_append, trail_eq_crc7, crc7_cons, crc7_nil, BitVec.xor_self, crcTable_zero]

/-! ### The settled obligations -/

/-- Settles O5: the last operation of a table entry is a shift. -/
theorem checksumOfAnyBytesIsSevenBitClean : Obligations.ChecksumOfAnyBytesIsSevenBitClean :=
  fun poly => ⟨crcTable_le poly, crc7_cons_le poly, trail_eq_crc7 poly, crcTable_zero poly⟩

/-- Settles O6: the step reads the polynomial shifted right by one, where bit 0 is gone. -/
theorem polynomialBitZeroHasNoEffect : Obligations.PolynomialBitZeroHasNoEffect := by
  intro poly
  have htable : crcTable (poly ^^^ 1#8) = crcTable poly := crcTable_congr (ushiftRight_xor_one poly)
  exact ⟨crcStep_eq_shift_xor poly, congrFun htable, crc7_congr htable, frame_congr htable⟩

/-- Settles O7: the step is linear on both branches of its test; a table is linear, so it is determined
by its entries at the single bits. -/
theorem checksumIsLinearOverXor : Obligations.ChecksumIsLinearOverXor :=
  ⟨crcStep_xor, crcTable_xor, fun poly p q _ _ => crc7_xor poly p q,
    fun poly poly' => eq_of_xor_of_eq_single_bits (crcTable_xor poly) (crcTable_xor poly')⟩

/-- Settles O8, by induction on the first part. -/
theorem checksumContinuesOverConcatenation : Obligations.ChecksumContinuesOverConcatenation := by
  refine fun poly prev xs ys => ⟨crc7_append poly prev xs ys, ?_⟩
  rintro b rest rfl
  exact crc7_cons_eq_zero_seed poly prev b rest

/-- Settles O9: a checksummed frame is a list with its trailer. -/
theorem bytesWithTrailerHaveZeroResidue : Obligations.BytesWithTrailerHaveZeroResidue := by
  refine ⟨crc7_append_trail, fun poly f op body hcs => ?_⟩
  rw [frame_of_csen hcs]
  exact crc7_append_trail poly (preamble f op ++ body)

end Sys2Proof.Machine

/-! ## The checksum at the default polynomial

40_crc7.md section 4, at POLY = 0x91: the table as combinational logic, which two indices share an entry,
and what that says about a single flipped bit. -/

namespace Sys2Proof.Machine

/-- The update as the spec's exclusive-ors of index bits. -/
theorem crcTable_91_bits : ∀ x : Byte,
    (crcTable 0x91#8 x).getLsbD 0 = ((x.getLsbD 0 ^^ x.getLsbD 1) ^^ x.getLsbD 4) ∧
    (crcTable 0x91#8 x).getLsbD 1 = ((x.getLsbD 1 ^^ x.getLsbD 2) ^^ x.getLsbD 5) ∧
    (crcTable 0x91#8 x).getLsbD 2 = ((x.getLsbD 2 ^^ x.getLsbD 3) ^^ x.getLsbD 6) ∧
    (crcTable 0x91#8 x).getLsbD 3 = ((x.getLsbD 3 ^^ x.getLsbD 4) ^^ x.getLsbD 7) ∧
    (crcTable 0x91#8 x).getLsbD 4 = (x.getLsbD 1 ^^ x.getLsbD 5) ∧
    (crcTable 0x91#8 x).getLsbD 5 = (x.getLsbD 2 ^^ x.getLsbD 6) ∧
    (crcTable 0x91#8 x).getLsbD 6 = ((x.getLsbD 0 ^^ x.getLsbD 3) ^^ x.getLsbD 7) ∧
    (crcTable 0x91#8 x).getLsbD 7 = false := by decide +kernel

/-- The kernel of the table: 0 and the polynomial itself. -/
theorem crcTable_91_eq_zero_iff : ∀ x : Byte, crcTable 0x91#8 x = 0#8 ↔ x = 0#8 ∨ x = 0x91#8 := by
  decide +kernel

/-- By linearity, two indices have the same entry exactly if their difference is in the kernel. -/
theorem crcTable_91_eq_iff (a b : Byte) :
    crcTable 0x91#8 a = crcTable 0x91#8 b ↔ a = b ∨ a = b ^^^ 0x91#8 := by
  have hdiff : a ^^^ b = 0x91#8 ↔ a = b ^^^ 0x91#8 := by
    constructor
    · intro h; rw [← h, BitVec.xor_comm a b, ← BitVec.xor_assoc, BitVec.xor_self, BitVec.zero_xor]
    · rintro rfl; rw [BitVec.xor_comm b, BitVec.xor_assoc, BitVec.xor_self, BitVec.xor_zero]
  rw [← BitVec.xor_eq_zero_iff, ← crcTable_xor, crcTable_91_eq_zero_iff, BitVec.xor_eq_zero_iff, hdiff]

/-- Two clean bytes do not differ by 0x91, which has bit 7 set; nor do they after any byte is put on both. -/
theorem crcTable_91_xor_ne_of_clean {a b : Byte} (ha : a.toNat ≤ 0x7F) (hb : b.toNat ≤ 0x7F)
    (hne : a ≠ b) (x : Byte) : crcTable 0x91#8 (a ^^^ x) ≠ crcTable 0x91#8 (b ^^^ x) := by
  have hlt : (a ^^^ b).toNat < 2 ^ 7 := by
    rw [BitVec.toNat_xor]
    exact Nat.xor_lt_two_pow (by omega) (by omega)
  intro h
  rw [← BitVec.xor_eq_zero_iff, ← crcTable_xor, xor_xor_xor_comm_byte, BitVec.xor_self,
    BitVec.xor_zero, crcTable_91_eq_zero_iff] at h
  rcases h with h | h
  · exact hne (BitVec.xor_eq_zero_iff.1 h)
  · rw [h] at hlt
    exact absurd hlt (by decide)

/-- So accumulators that differ stay different over every list of bytes. -/
theorem crc7_91_ne_of_clean {a b : Byte} (ha : a.toNat ≤ 0x7F) (hb : b.toNat ≤ 0x7F) (hne : a ≠ b)
    (xs : List Byte) : crc7 0x91#8 a xs ≠ crc7 0x91#8 b xs := by
  induction xs generalizing a b with
  | nil => exact hne
  | cons x rest ih =>
    exact ih (crcTable_le _ _) (crcTable_le _ _) (crcTable_91_xor_ne_of_clean ha hb hne x)

/-- A single bit is outside the kernel: it is neither 0 nor 0x91. -/
theorem crcTable_91_single_bit_ne_zero : ∀ k : Nat, k < 8 → crcTable 0x91#8 (1#8 <<< k) ≠ 0#8 := by
  decide +kernel

/-! ### The settled obligations -/

/-- Settles O10: the logic and the kernel over all 256 indices, the equal entries by linearity; the two
entries run the model. -/
theorem defaultPolynomialTableIsTheSpecsLogic : Obligations.DefaultPolynomialTableIsTheSpecsLogic :=
  ⟨crcTable_91_bits, crcTable_91_eq_iff, by decide, by decide⟩

/-- Settles O11: the flipped bit changes the accumulator at its byte, as a single bit is outside the
kernel of the table, and no later byte makes the two accumulators equal again. -/
theorem singleBitErrorChangesTheTrailer : Obligations.SingleBitErrorChangesTheTrailer := by
  intro before after b k hk
  have hflip (acc : Byte) :
      crcTable 0x91#8 (acc ^^^ (b ^^^ (1#8 <<< k))) ≠ crcTable 0x91#8 (acc ^^^ b) := by
    rw [← BitVec.xor_assoc, crcTable_xor, Ne, ← BitVec.xor_eq_zero_iff, BitVec.xor_comm,
      ← BitVec.xor_assoc, BitVec.xor_self, BitVec.zero_xor]
    exact crcTable_91_single_bit_ne_zero k hk
  rw [trail_eq_crc7, trail_eq_crc7, crc7_append, crc7_append, crc7_cons, crc7_cons]
  exact crc7_91_ne_of_clean (crcTable_le _ _) (crcTable_le _ _) (hflip _) after

end Sys2Proof.Machine

/-! ## The protocol invariant

What a presented operation emits, stated with the encoder, the accumulator it leaves, and from these that
every step keeps the invariant of Safety.lean (rules R17 to R20). -/

namespace Sys2Proof.Machine

/-! ### What a command emits, and the accumulator -/

/-- The accumulator of an accepted command: the checksum of the bytes before the trailer, if one is
computed (rule R18, log 8). -/
theorem runCommand_next_acc {c : Command} {body : List Byte} {r : Fin 3} {s t : State}
    (h : runCommand c body r s = .next t) :
    t.acc = if s.csen then crc7 Config.poly 0#8 (preamble s.framing (Config.opc c) ++ body)
      else s.acc := by
  rcases commandWith_cases Config.params c body r s with ⟨-, e⟩ | ⟨-, -, e⟩ | ⟨-, -, e⟩ <;>
    cases e.symm.trans h
  rfl

/-- A command that the port can carry and that is accepted hands over its encoding; the empty batch,
which has none, changes nothing (rules R80, R101). -/
theorem exec_command_next {i : Instr} {c : Command} {s t : State} (hwf : i.wellFormed = true)
    (hc : i.command? = some c) (h : exec i s = .next t) :
    s.ready = true ∧
      ((∃ w, encode Config.params s.framing i = some w ∧ CommandEffect s t w (replyBytes c)) ∨
        t = s) := by
  by_cases hne : ∀ start, i ≠ .setMultipleTargets start []
  · rw [exec_command hc hne] at h
    obtain ⟨hr, -, effect⟩ := runCommand_next h
    exact ⟨hr, .inl ⟨_, encode_command hwf hc hne, effect⟩⟩
  · push Not at hne
    obtain ⟨start, rfl⟩ := hne
    obtain ⟨hr, -, rfl⟩ := runEmptyCommand_next h
    exact ⟨hr, .inr rfl⟩

/-- The accumulator is only ever written by the fold of a trailer, which is clean. -/
theorem exec_keeps_acc_clean {i : Instr} {s t : State} (hacc : s.acc.toNat ≤ 0x7F)
    (h : exec i s = .next t) : t.acc.toNat ≤ 0x7F := by
  cases hc : i.command? with
  | some c =>
    rcases exec_command_cases hc with e | ⟨start, rfl⟩
    · rw [runCommand_next_acc ((e s).symm.trans h)]
      split
      · exact crc7_le_of_clean (by decide) _
      · exact hacc
    · obtain ⟨-, -, rfl⟩ := runEmptyCommand_next h
      exact hacc
  | none =>
    rcases exec_not_command hc with ⟨addr, mode, crc, rfl⟩ | rfl | ⟨r, e⟩
    · obtain ⟨-, rfl⟩ := createWith_next h
      exact hacc
    · obtain ⟨-, rfl⟩ := endReply_next h
      exact hacc
    · cases (e s).symm.trans h
      exact hacc

/-! ### The invariant under each effect -/

/-- The invariant speaks of neither the port nor the returned values. -/
theorem State.Inv.take {s : State} (hs : s.Inv) (rest : List Instr) : (s.take rest).Inv :=
  ⟨hs.fb_empty, hs.acc_clean, hs.before_creation, hs.after_creation, hs.owed⟩

theorem State.Inv.giveBack {s : State} (hs : s.Inv) (r : Returned) : (s.giveBack r).Inv :=
  ⟨hs.fb_empty, hs.acc_clean, hs.before_creation, hs.after_creation, hs.owed⟩

theorem State.Inv.setPending_zero {s : State} (hs : s.Inv) : (s.setPending 0).Inv :=
  ⟨hs.fb_empty, hs.acc_clean, fun hr => ⟨(hs.before_creation hr).1, rfl⟩, hs.after_creation,
    fun hp => absurd rfl hp⟩

/-- Creation starts the log: nothing was emitted before it, and nothing is owed. -/
theorem State.Inv.created {s : State} (hs : s.Inv) (hr : s.ready = false) (addr : DeviceAddress)
    (mode : Mode) (crc : Bool) :
    (((s.latch addr mode crc).txEmit [Config.autobaud]).setReady).Inv := by
  obtain ⟨hlog, hpending⟩ := hs.before_creation hr
  refine ⟨hs.fb_empty, hs.acc_clean, nofun, fun _ => ⟨[], ?_, nofun⟩, fun hp => absurd hpending hp⟩
  simp [hlog]

/-- A command burst extends the log, and a reply owed afterwards is its own. -/
theorem State.Inv.emitted {s t : State} {w : List Byte} {r : Fin 3} (hs : s.Inv)
    (hr : s.ready = true) (hacc : t.acc.toNat ≤ 0x7F) (effect : CommandEffect s t w r)
    (hburst : IsCommandBurst s.framing r w) : t.Inv where
  fb_empty := effect.fb
  acc_clean := hacc
  before_creation hr' := by cases (effect.ready.trans hr).symm.trans hr'
  after_creation _ := by
    obtain ⟨bursts, hlog, hall⟩ := hs.after_creation hr
    refine ⟨bursts ++ [w], by rw [effect.txlog, hlog]; rfl, fun b hb => ?_⟩
    rw [effect.framing]
    rcases List.mem_append.1 hb with hold | hnew
    · exact hall b hold
    · exact ⟨r, List.mem_singleton.1 hnew ▸ hburst⟩
  owed _ := by
    refine ⟨w, by rw [effect.txlog, List.getLast?_concat], ?_⟩
    rw [effect.framing, effect.pending]
    exact hburst

/-- Every operation the port can carry keeps the invariant. -/
theorem exec_keeps_inv {i : Instr} {s t : State} (hwf : i.wellFormed = true) (hs : s.Inv)
    (h : exec i s = .next t) : t.Inv := by
  cases hc : i.command? with
  | some c =>
    obtain ⟨hr, ⟨w, hw, effect⟩ | rfl⟩ := exec_command_next hwf hc h
    · exact hs.emitted hr (exec_keeps_acc_clean hs.acc_clean h) effect ⟨i, c, hwf, hc, hw, rfl⟩
    · exact hs
  | none =>
    rcases exec_not_command hc with ⟨addr, mode, crc, rfl⟩ | rfl | ⟨r, e⟩
    · obtain ⟨hr, rfl⟩ := createWith_next h
      exact hs.created hr addr mode crc
    · obtain ⟨-, rfl⟩ := endReply_next h
      exact hs.setPending_zero
    · cases (e s).symm.trans h
      exact hs.giveBack r

/-! ### The settled obligations -/

/-- Settles O45: a step does nothing or runs an operation the port can carry. -/
theorem everyStepKeepsTheProtocolInvariant : Obligations.EveryStepKeepsTheProtocolInvariant := by
  intro s t hs h
  rcases step_next_cases h with ⟨-, rfl⟩ | ⟨i, rest, -, hwf, he⟩
  · exact hs
  · exact exec_keeps_inv hwf (hs.take rest) he

/-- Settles O44: the reset state is not created, and has logged and owes nothing. -/
theorem resetMeetsTheProtocolInvariant : Obligations.ResetMeetsTheProtocolInvariant where
  fb_empty := rfl
  acc_clean := by decide
  before_creation _ := ⟨rfl, rfl⟩
  after_creation := nofun
  owed hp := absurd rfl hp

/-- Settles O34: the bytes before the trailer are the preamble and the body; their checksum is clean, so
it is the trailer. -/
theorem accumulatorHoldsTheLastTrailerFold : Obligations.AccumulatorHoldsTheLastTrailerFold := by
  intro s t i c hc hne hcs h
  rw [exec_command hc hne] at h
  obtain ⟨-, -, effect⟩ := runCommand_next h
  have hacc := runCommand_next_acc h
  rw [if_pos hcs] at hacc
  refine ⟨preamble s.framing (Config.opc c) ++ commandBody i, trail Config.poly _, ?_, hacc,
    hacc.trans (trail_eq_crc7 _ _).symm⟩
  rw [effect.txlog, State.frameOf, frame_of_csen (f := s.framing) hcs]
  rfl

/-- Settles O32: the datapath's frame is the encoder's. -/
theorem acceptedCommandEmitsItsTableEncoding : Obligations.AcceptedCommandEmitsItsTableEncoding :=
  fun _ _ _ _ => exec_command_accepted

end Sys2Proof.Machine

/-! ## The bursts of a step and of a run

How much one step hands over (20_memory.md sections 3 and 5), and what a run of commands that expect no
reply hands over. -/

namespace Sys2Proof.Machine

/-! ### One step -/

/-- A frame has at least its preamble. -/
theorem frame_ne_nil (poly : Byte) (f : Framing) (op : Byte) (body : List Byte) :
    frame poly f op body ≠ [] := by
  obtain ⟨first, rest, hpre, -, -, -⟩ := preamble_eq_cons f op
  obtain ⟨tail, hframe, -⟩ := frame_eq_append_clean poly f op body
  rw [hframe, hpre]
  nofun

/-- Each operation leaves the port alone and an empty buffer empty, and appends at most one burst, which
is not empty. -/
theorem exec_appends_at_most_one_burst {i : Instr} {s t : State} (h : exec i s = .next t)
    (hfb : s.fb = []) : t.fb = [] ∧ t.port = s.port ∧
      (t.txlog = s.txlog ∨ ∃ b : List Byte, b ≠ [] ∧ t.txlog = s.txlog ++ [b]) := by
  rcases exec_next_cases h with ⟨c, -, -, -, effect⟩ | ⟨start, -, -, -, rfl⟩ |
    ⟨addr, mode, crc, -, -, rfl⟩ | ⟨-, -, rfl⟩ | ⟨-, r, rfl⟩
  · exact ⟨effect.fb, effect.port, .inr ⟨_, frame_ne_nil _ _ _ _, effect.txlog⟩⟩
  · exact ⟨hfb, rfl, .inl rfl⟩
  · exact ⟨hfb, rfl, .inr ⟨_, List.cons_ne_nil _ _, rfl⟩⟩
  · exact ⟨hfb, rfl, .inl rfl⟩
  · exact ⟨hfb, rfl, .inl rfl⟩

theorem step_of_port_nil {s : State} (h : s.port = []) : step s = .next s := by
  simp [step, h, idle]

theorem step_of_port_cons {s : State} {i : Instr} {rest : List Instr} (h : s.port = i :: rest)
    (hwf : i.wellFormed = true) : step s = exec i (s.take rest) := by
  simp [step, h, hwf]

theorem step_of_not_wellFormed {s : State} {i : Instr} {rest : List Instr} (h : s.port = i :: rest)
    (hwf : i.wellFormed = false) : step s = .refused .vectorTooLong := by
  simp [step, h, hwf, rejectRecord]

/-- A table word that decodes puts exactly its operation at the port. -/
theorem State.withFetchWord_port {n w : Nat} {i : Instr} (h : decodeTableWord n w = some i)
    (s : State) : (s.withFetchWord n w).port = [i] := by
  rw [State.withFetchWord, h, State.present_port]
  rfl

/-! ### A run of commands -/

/-- On a created block owed no reply, a command that expects none appends its encoding, if it has one,
and leaves the block ready for the next. -/
theorem exec_command_without_reply {i : Instr} {c : Command} {s : State} (hwf : i.wellFormed = true)
    (hc : i.command? = some c) (hreply : replyBytes c = 0) (hr : s.ready = true)
    (hp : s.pending = 0) :
    ∃ t, exec i s = .next t ∧
      t.txlog = s.txlog ++ (encode Config.params s.framing i).toList ∧
      t.ready = true ∧ t.pending = 0 ∧ t.framing = s.framing ∧ t.port = s.port := by
  cases hw : encode Config.params s.framing i with
  | some w =>
    obtain ⟨t, he, effect⟩ := exec_command_accepted hwf hc hw hr hp
    exact ⟨t, he, effect.txlog, effect.ready.trans hr, effect.pending.trans hreply, effect.framing,
      effect.port⟩
  | none =>
    have hi : i.isCommand = true := Option.isSome_iff_exists.2 ⟨c, hc⟩
    obtain ⟨t, he⟩ := exec_command_completes hi hr hp
    obtain ⟨-, ⟨w, hw', -⟩ | rfl⟩ := exec_command_next hwf hc he
    · cases hw.symm.trans hw'
    · exact ⟨t, he, (List.append_nil _).symm, hr, hp, rfl, rfl⟩

theorem core_run_succ {k : Nat} {s t : State} (h : step s = .next t) :
    Host.Core.run Sys2Proof.core (k + 1) s = Host.Core.run Sys2Proof.core k t := by
  have hstep : Sys2Proof.core.step s = .next t := h
  simp only [Host.Core.run, hstep]

/-! ### The settled obligations -/

/-- Settles O42: a step does nothing or takes the first operation and runs it. -/
theorem eachStepAppendsAtMostOneBurst : Obligations.EachStepAppendsAtMostOneBurst := by
  intro s t h hfb
  rcases step_next_cases h with ⟨hport, rfl⟩ | ⟨i, rest, hport, -, he⟩
  · exact ⟨hfb, by rw [hport, List.tail_nil], .inl rfl⟩
  · obtain ⟨hfb', hport', hlog⟩ := exec_appends_at_most_one_burst (s := s.take rest) he hfb
    exact ⟨hfb', by rw [hport', hport, State.take_port, List.tail_cons], hlog⟩

/-- Settles O23: the three answers of a step by what stands first at the port; a table word that decodes
stands there alone. -/
theorem stepRunsThePresentedOperation : Obligations.StepRunsThePresentedOperation :=
  ⟨fun _ _ _ => step_of_port_cons,
    fun s _ _ _ hword hwf => step_of_port_cons (State.withFetchWord_port hword s) hwf,
    fun _ => step_of_port_nil, fun _ _ _ => step_of_not_wellFormed⟩

/-- Settles O48, by induction on the operations presented: each step runs the first and leaves a state
of the same kind with the others. -/
theorem presentedCommandsAreEmittedInOrder : Obligations.PresentedCommandsAreEmittedInOrder := by
  intro s hr hp hall
  generalize hport : s.port = ops at hall
  induction ops generalizing s with
  | nil => exact ⟨s, rfl, (List.append_nil _).symm, hport, hp, rfl⟩
  | cons i rest ih =>
    obtain ⟨⟨hwf, c, hc, hreply⟩, hrest⟩ := List.forall_mem_cons.1 hall
    obtain ⟨u, he, hlog, hru, hpu, hframing, hportu⟩ :=
      exec_command_without_reply (s := s.take rest) hwf hc hreply hr hp
    obtain ⟨t, hrun, hlogt, hportt, hpt, hframingt⟩ := ih u hru hpu hportu hrest
    refine ⟨t, ?_, ?_, hportt, hpt, hframingt.trans hframing⟩
    · rw [List.length_cons, core_run_succ ((step_of_port_cons hport hwf).trans he), hrun]
    · rw [hlogt, hlog, hframing, List.append_assoc]
      cases hw : encode Config.params s.framing i <;> simp [hw]

end Sys2Proof.Machine

/-! ## What an operation's outcome does not depend on

The bytes of a command are made from the configuration and the operands (10_state.md sections 3 and 6):
neither the other fields of the state nor, in compact mode, the device address reach them. -/

namespace Sys2Proof.Machine

/-- Two outcomes agree on everything the host observes: the same refusal, or the same new bursts after
logs that may differ, and the same READY, PENDING and configuration. -/
def SameOutput (s s' : State) (o o' : Result) : Prop :=
  (∃ why, o = .refused why ∧ o' = .refused why) ∨
  (∃ t t' new, o = .next t ∧ o' = .next t' ∧
    t.txlog = s.txlog ++ new ∧ t'.txlog = s'.txlog ++ new ∧
    t.pending = t'.pending ∧ t.ready = t'.ready ∧ t.framing = t'.framing)

/-- The empty batch completes on a created block owed no reply and changes nothing (rule R101). -/
theorem runEmptyCommand_accepted {s : State} (hr : s.ready = true) (hp : s.pending = 0) :
    runEmptyCommand s = .next s := by
  simp [runEmptyCommand, (commandRefusal_eq_none_iff s).2 ⟨hr, hp⟩]

/-- A command reads READY, PENDING, the configuration and its operands. -/
theorem exec_command_sameOutput {i : Instr} {c : Command} (hc : i.command? = some c) {s s' : State}
    (hready : s.ready = s'.ready) (hpending : s.pending = s'.pending)
    (hframing : s.framing = s'.framing) : SameOutput s s' (exec i s) (exec i s') := by
  have hi : i.isCommand = true := Option.isSome_iff_exists.2 ⟨c, hc⟩
  cases hr : s.ready with
  | false =>
    exact .inl ⟨_, exec_command_of_not_ready hi hr, exec_command_of_not_ready hi (hready ▸ hr)⟩
  | true =>
    have hr' : s'.ready = true := hready ▸ hr
    by_cases hp : s.pending = 0
    · have hp' : s'.pending = 0 := hpending ▸ hp
      rcases exec_command_cases hc with e | ⟨start, rfl⟩
      · obtain ⟨t, he, effect⟩ := runCommand_accepted c (commandBody i) (replyBytes c) hr hp
        obtain ⟨t', he', effect'⟩ := runCommand_accepted c (commandBody i) (replyBytes c) hr' hp'
        have hburst : s'.frameOf c (commandBody i) = s.frameOf c (commandBody i) := by
          rw [State.frameOf, State.frameOf, hframing]
        exact .inr ⟨t, t', [s.frameOf c (commandBody i)], (e s).trans he, (e s').trans he',
          effect.txlog, hburst ▸ effect'.txlog, effect.pending.trans effect'.pending.symm,
          effect.ready.trans (hready.trans effect'.ready.symm),
          effect.framing.trans (hframing.trans effect'.framing.symm)⟩
      · exact .inr ⟨s, s', [], runEmptyCommand_accepted hr hp, runEmptyCommand_accepted hr' hp',
          (List.append_nil _).symm, (List.append_nil _).symm, hpending, hready, hframing⟩
    · exact .inl ⟨_, exec_command_of_pending hi hr hp, exec_command_of_pending hi hr' (hpending ▸ hp)⟩

theorem exec_init_sameOutput (addr : DeviceAddress) (mode : Mode) (crc : Bool) {s s' : State}
    (hready : s.ready = s'.ready) (hpending : s.pending = s'.pending) :
    SameOutput s s' (exec (.init addr mode crc) s) (exec (.init addr mode crc) s') := by
  cases hr : s.ready with
  | false =>
    exact .inr ⟨_, _, [[Config.autobaud]], exec_init_of_not_ready addr mode crc hr,
      exec_init_of_not_ready addr mode crc (hready ▸ hr), rfl, rfl, hpending, rfl, rfl⟩
  | true =>
    exact .inl ⟨_, exec_init_of_ready addr mode crc hr, exec_init_of_ready addr mode crc (hready ▸ hr)⟩

theorem exec_replyDone_sameOutput {s s' : State} (hready : s.ready = s'.ready)
    (hframing : s.framing = s'.framing) :
    SameOutput s s' (exec .replyDone s) (exec .replyDone s') := by
  cases hr : s.ready with
  | false =>
    exact .inl ⟨_, exec_replyDone_of_not_ready hr, exec_replyDone_of_not_ready (hready ▸ hr)⟩
  | true =>
    exact .inr ⟨_, _, [], exec_replyDone_of_ready hr, exec_replyDone_of_ready (hready ▸ hr),
      (List.append_nil _).symm, (List.append_nil _).symm, rfl, hready, hframing⟩

/-! ### The device address in compact mode -/

/-- The state with another value in DEVADDR. -/
def State.readdress (s : State) (addr : DeviceAddress) : State := { s with devaddr := addr }

/-- The compact preamble is the command code alone (rule R41). -/
theorem preamble_readdress {s : State} (hm : s.mode = .compact) (addr : DeviceAddress) (op : Byte) :
    preamble (s.readdress addr).framing op = preamble s.framing op := by
  simp [preamble, State.framing, State.readdress, hm]

theorem frame_readdress {s : State} (hm : s.mode = .compact) (addr : DeviceAddress) (poly op : Byte)
    (body : List Byte) : frame poly (s.readdress addr).framing op body = frame poly s.framing op body := by
  simp only [frame, preamble_readdress hm]
  rfl

/-- Two outcomes differ in the address alone: the next states do, or the refusals are the same. -/
def SameUpToAddress (addr : DeviceAddress) (o o' : Result) : Prop :=
  (∃ t, o = .next t ∧ o' = .next (t.readdress addr)) ∨ (∃ why, o = .refused why ∧ o' = .refused why)

theorem runCommand_readdress (c : Command) (body : List Byte) (r : Fin 3) {s : State}
    (hm : s.mode = .compact) (hr : s.ready = true) (hp : s.pending = 0) (addr : DeviceAddress) :
    SameUpToAddress addr (runCommand c body r s) (runCommand c body r (s.readdress addr)) := by
  refine .inl ⟨_, commandWith_accepted Config.params c body r hr hp, ?_⟩
  rw [runCommand, commandWith_accepted Config.params c body r (s := s.readdress addr) hr hp,
    frame_readdress hm, preamble_readdress hm]
  rfl

/-- On a created block in compact mode no operation uses DEVADDR: a frame is built without it, and INIT,
which would write it, is refused (rules R16, R41, R122). -/
theorem exec_readdress {s : State} (hm : s.mode = .compact) (hr : s.ready = true)
    (addr : DeviceAddress) (i : Instr) :
    SameUpToAddress addr (exec i s) (exec i (s.readdress addr)) := by
  cases hc : i.command? with
  | some c =>
    by_cases hp : s.pending = 0
    · rcases exec_command_cases hc with e | ⟨start, rfl⟩
      · rw [e, e]
        exact runCommand_readdress c _ _ hm hr hp addr
      · exact .inl ⟨s, runEmptyCommand_accepted hr hp,
          runEmptyCommand_accepted (s := s.readdress addr) hr hp⟩
    · have hi : i.isCommand = true := Option.isSome_iff_exists.2 ⟨c, hc⟩
      exact .inr ⟨_, exec_command_of_pending hi hr hp,
        exec_command_of_pending (s := s.readdress addr) hi hr hp⟩
  | none =>
    rcases exec_not_command hc with ⟨addr', mode, crc, rfl⟩ | rfl | ⟨r, e⟩
    · exact .inr ⟨_, exec_init_of_ready addr' mode crc hr,
        exec_init_of_ready addr' mode crc (s := s.readdress addr) hr⟩
    · exact .inl ⟨_, exec_replyDone_of_ready hr, exec_replyDone_of_ready (s := s.readdress addr) hr⟩
    · exact .inl ⟨_, e s, e (s.readdress addr)⟩

/-! ### The settled obligations -/

/-- Settles O46, by the kind of the operation; a primitive reads no field and emits nothing. -/
theorem commandBytesIgnoreAllOtherState : Obligations.CommandBytesIgnoreAllOtherState := by
  intro s s' i hready hpending hframing
  change SameOutput s s' (exec i s) (exec i s')
  cases hc : i.command? with
  | some c => exact exec_command_sameOutput hc hready hpending hframing
  | none =>
    rcases exec_not_command hc with ⟨addr, mode, crc, rfl⟩ | rfl | ⟨r, e⟩
    · exact exec_init_sameOutput addr mode crc hready hpending
    · exact exec_replyDone_sameOutput hready hframing
    · exact .inr ⟨_, _, [], e s, e s', (List.append_nil _).symm, (List.append_nil _).symm, hpending,
        hready, hframing⟩

/-- Settles O47: the address is no part of what a step takes from the port, nor of what the operation
does in compact mode. -/
theorem compactModeIgnoresTheDeviceAddress : Obligations.CompactModeIgnoresTheDeviceAddress := by
  intro s addr hm hr
  change SameUpToAddress addr (step s) (step (s.readdress addr))
  cases hport : s.port with
  | nil => exact .inl ⟨s, step_of_port_nil hport, step_of_port_nil (s := s.readdress addr) hport⟩
  | cons i rest =>
    cases hwf : i.wellFormed with
    | false =>
      exact .inr ⟨_, step_of_not_wellFormed hport hwf,
        step_of_not_wellFormed (s := s.readdress addr) hport hwf⟩
    | true =>
      rw [step_of_port_cons hport hwf, step_of_port_cons (s := s.readdress addr) hport hwf]
      exact exec_readdress (s := s.take rest) hm hr addr i

end Sys2Proof.Machine

/-! ## The codec's round trip

ENC14 keeps the low fourteen bits and DEC14 gives them back (41_codec.md), so two values share an
encoding exactly when they share those bits. -/

namespace Sys2Proof.Machine

theorem lowByte_toNat (v : Word) : (lowByte v).toNat = v.toNat % 128 := by
  rw [lowByte_eq_ofNat, BitVec.toNat_ofNat]
  omega

theorem highByte_toNat (v : Word) : (highByte v).toNat = v.toNat / 128 % 128 := by
  rw [highByte_eq_ofNat, BitVec.toNat_ofNat]
  omega

theorem dec14_lowByte_highByte_toNat (v : Word) :
    (dec14 (lowByte v) (highByte v)).toNat = v.toNat % 16384 := by
  rw [dec14_toNat, lowByte_toNat, highByte_toNat]
  omega

/-- Recombining undoes splitting on the values that fit the field (rule R72). -/
theorem dec14_lowByte_highByte {v : Word} (h : v.toNat ≤ 0x3FFF) :
    dec14 (lowByte v) (highByte v) = v := by
  apply BitVec.eq_of_toNat_eq
  rw [dec14_lowByte_highByte_toNat]
  omega

theorem dec14_lowByte_highByte_eq_mask (v : Word) :
    dec14 (lowByte v) (highByte v) = v &&& 0x3FFF#16 := by
  have hmask : (v &&& 0x3FFF#16).toNat = v.toNat % 16384 :=
    Nat.and_two_pow_sub_one_eq_mod v.toNat 14
  apply BitVec.eq_of_toNat_eq
  rw [dec14_lowByte_highByte_toNat, hmask]

/-- Splitting undoes recombining on clean bytes: neither sum carries into the other seven bits. -/
theorem enc14_dec14 {lo hi : Byte} (hlo : lo.toNat ≤ 0x7F) (hhi : hi.toNat ≤ 0x7F) :
    enc14 (dec14 lo hi) = [lo, hi] := by
  have hlow : lowByte (dec14 lo hi) = lo := by
    apply BitVec.eq_of_toNat_eq
    rw [lowByte_toNat, dec14_toNat]
    omega
  have hhigh : highByte (dec14 lo hi) = hi := by
    apply BitVec.eq_of_toNat_eq
    rw [highByte_toNat, dec14_toNat]
    omega
  rw [enc14, hlow, hhigh]

/-- DEC14 tells apart what ENC14 tells apart, and it gives back the value modulo 2^14. -/
theorem enc14_eq_iff (v w : Word) : enc14 v = enc14 w ↔ v.toNat % 16384 = w.toNat % 16384 := by
  constructor
  · intro h
    simp only [enc14, List.cons.injEq, and_true] at h
    obtain ⟨hlow, hhigh⟩ := h
    rw [← dec14_lowByte_highByte_toNat, ← dec14_lowByte_highByte_toNat, hlow, hhigh]
  · intro h
    have hlow : v.toNat % 128 = w.toNat % 128 := by omega
    have hhigh : v.toNat / 128 % 128 = w.toNat / 128 % 128 := by omega
    rw [enc14_eq_ofNat, enc14_eq_ofNat, hlow, hhigh]

/-- Settles O15: both directions as sums of remainders modulo 128; the example runs the model. -/
theorem splitAndRecombineRoundTrip : Obligations.SplitAndRecombineRoundTrip :=
  ⟨fun v hv => ⟨lowByte v, highByte v, rfl, dec14_lowByte_highByte hv⟩,
    fun v => ⟨lowByte v, highByte v, rfl, dec14_lowByte_highByte_eq_mask v⟩,
    fun _ _ => enc14_dec14, enc14_eq_iff, by decide⟩

end Sys2Proof.Machine

/-! ## The decoder

For each reader of Decode.lean, exactly which bytes it accepts: the bytes the formatter writes for what
it answers, followed by the rest. Both directions of the round trip are read off the last of these
equivalences, `decodeFrame_eq_ok_iff`. -/

namespace Sys2Proof.Machine

/-! ### One part after another -/

/-- Read a part, then go on with the bytes after it: what each reader of Decode.lean that reads more than
one part does, as the equations below say. -/
def Reading.next {α β : Type} (r : Reading α) (k : α → List Byte → Reading β) : Reading β :=
  match r with
  | .error e => .error e
  | .ok (a, rest) => k a rest

theorem Reading.next_eq_ok_iff {α β : Type} {r : Reading α} {k : α → List Byte → Reading β}
    {x : β × List Byte} : Reading.next r k = .ok x ↔ ∃ a mid, r = .ok (a, mid) ∧ k a mid = .ok x := by
  rcases r with e | ⟨a, mid⟩ <;> simp [Reading.next]

theorem readValues_succ (n : Nat) (bs : List Byte) : readValues (n + 1) bs =
    Reading.next (readValue bs) fun v mid =>
      Reading.next (readValues n mid) fun vs rest => .ok (v :: vs, rest) := by
  rw [readValues]
  rcases readValue bs with e | ⟨v, mid⟩
  · rfl
  · rcases h : readValues n mid with e | ⟨vs, rest⟩ <;> simp only [Reading.next, h]

theorem readByteValue_eq_next (bs : List Byte) : readByteValue bs =
    Reading.next (readByte bs) fun b mid =>
      Reading.next (readValue mid) fun v rest => .ok ((b, v), rest) := by
  rw [readByteValue]
  rcases readByte bs with e | ⟨b, mid⟩
  · rfl
  · rcases h : readValue mid with e | ⟨v, rest⟩ <;> simp only [Reading.next, h]

theorem readByteTwoValues_eq_next (bs : List Byte) : readByteTwoValues bs =
    Reading.next (readByteValue bs) fun a mid =>
      Reading.next (readValue mid) fun w rest => .ok ((a.1, a.2, w), rest) := by
  rw [readByteTwoValues]
  rcases readByteValue bs with e | ⟨⟨b, v⟩, mid⟩
  · rfl
  · rcases h : readValue mid with e | ⟨w, rest⟩ <;> simp only [Reading.next, h]

theorem readBatch_of_le {n : Byte} (h : n.toNat ≤ Config.channels) (start : Byte) (bs : List Byte) :
    readBatch (n :: start :: bs) =
      Reading.next (readValues n.toNat bs) fun vs rest => .ok ((start, vs), rest) := by
  rw [readBatch, if_pos h]
  rcases readValues n.toNat bs with e | ⟨vs, rest⟩ <;> rfl

theorem as_eq_next {α : Type} (r : Reading α) (mk : α → Instr) :
    r.as mk = Reading.next r fun a rest => .ok (mk a, rest) := rfl

theorem decodeFrame_eq_next (p : Params) (f : Framing) (bs : List Byte) : decodeFrame p f bs =
    Reading.next (readHead p f bs) fun c mid => Reading.next (readOperands c mid) fun i rest =>
      readTrailer p f (bs.take (bs.length - rest.length)) i rest := by
  rw [decodeFrame]
  rcases readHead p f bs with e | ⟨c, mid⟩
  · rfl
  · rcases h : readOperands c mid with e | ⟨i, rest⟩ <;> simp only [Reading.next, h]

/-! ### Operand bytes and values -/

@[simp] theorem readByte_eq_ok_iff {bs rest : List Byte} {b : Byte} :
    readByte bs = .ok (b, rest) ↔ bs = b :: rest := by
  cases bs <;> simp [readByte]

theorem msb_eq_false_iff_clean (b : Byte) : b.msb = false ↔ b.toNat ≤ 0x7F := by
  rw [BitVec.msb_eq_false_iff_two_mul_lt]
  omega

theorem fitsField_iff (v : Word) : fitsField v = true ↔ v.toNat ≤ 0x3FFF := decide_eq_true_iff

/-- The decoder joins two seven-bit parts where the recombiner adds bytes; on clean bytes they agree. -/
theorem joinSevens_eq_dec14 {lo hi : Byte} (hlo : lo.toNat ≤ 0x7F) (hhi : hi.toNat ≤ 0x7F) :
    joinSevens (lo.extractLsb' 0 7) (hi.extractLsb' 0 7) = dec14 lo hi := by
  have widen {b : Byte} (hb : b.toNat ≤ 0x7F) : (b.extractLsb' 0 7).setWidth 16 = b.setWidth 16 := by
    apply BitVec.eq_of_toNat_eq
    rw [BitVec.toNat_setWidth, BitVec.toNat_setWidth, BitVec.extractLsb'_toNat, Nat.shiftRight_zero]
    omega
  rw [joinSevens, widen hlo, widen hhi, dec14_eq_or_of_clean hlo]

theorem readValue_of_clean {lo hi : Byte} (hlo : lo.toNat ≤ 0x7F) (hhi : hi.toNat ≤ 0x7F)
    (rest : List Byte) : readValue (lo :: hi :: rest) = .ok (dec14 lo hi, rest) := by
  simp [readValue, (msb_eq_false_iff_clean _).2 hlo, (msb_eq_false_iff_clean _).2 hhi,
    joinSevens_eq_dec14 hlo hhi]

/-- A reading that answers has met two clean bytes. -/
theorem readValue_eq_ok {bs rest : List Byte} {v : Word} (h : readValue bs = .ok (v, rest)) :
    ∃ lo hi, bs = lo :: hi :: rest ∧ lo.toNat ≤ 0x7F ∧ hi.toNat ≤ 0x7F ∧ v = dec14 lo hi := by
  match bs with
  | [] | [_] => cases h
  | lo :: hi :: rest' =>
    cases hmlo : lo.msb with
    | true => simp [readValue, hmlo] at h
    | false =>
      cases hmhi : hi.msb with
      | true => simp [readValue, hmlo, hmhi] at h
      | false =>
        have hlo := (msb_eq_false_iff_clean lo).1 hmlo
        have hhi := (msb_eq_false_iff_clean hi).1 hmhi
        rw [readValue_of_clean hlo hhi] at h
        cases h
        exact ⟨lo, hi, rfl, hlo, hhi, rfl⟩

@[simp] theorem readValue_eq_ok_iff {bs rest : List Byte} {v : Word} :
    readValue bs = .ok (v, rest) ↔ fitsField v = true ∧ bs = enc14 v ++ rest := by
  rw [fitsField_iff]
  constructor
  · intro h
    obtain ⟨lo, hi, rfl, hlo, hhi, rfl⟩ := readValue_eq_ok h
    exact ⟨dec14_le_of_clean hlo hhi, by rw [enc14_dec14 hlo hhi]; rfl⟩
  · rintro ⟨hv, rfl⟩
    have hlow : (lowByte v).toNat ≤ 0x7F := enc14_le (v := v) (by simp [enc14])
    have hhigh : (highByte v).toNat ≤ 0x7F := enc14_le (v := v) (by simp [enc14])
    exact (readValue_of_clean hlow hhigh rest).trans (by rw [dec14_lowByte_highByte hv])

@[simp] theorem readValues_eq_ok_iff {n : Nat} {bs rest : List Byte} {vs : List Word} :
    readValues n bs = .ok (vs, rest) ↔
      vs.length = n ∧ vs.all fitsField = true ∧ bs = vs.flatMap enc14 ++ rest := by
  induction n generalizing bs vs rest with
  | zero =>
    rw [List.length_eq_zero_iff]
    constructor
    · rintro ⟨⟩; exact ⟨rfl, rfl, rfl⟩
    · rintro ⟨rfl, -, rfl⟩; rfl
  | succ n ih =>
    simp only [readValues_succ, Reading.next_eq_ok_iff, readValue_eq_ok_iff, ih]
    constructor
    · rintro ⟨v, _, ⟨hfits, rfl⟩, vs', _, ⟨hlen, hall, rfl⟩, ⟨⟩⟩
      exact ⟨congrArg (· + 1) hlen, by simp [hfits, hall], by simp⟩
    · rintro ⟨hlen, hall, rfl⟩
      obtain ⟨v, vs', rfl⟩ := List.exists_cons_of_length_eq_add_one hlen
      rw [List.all_cons, Bool.and_eq_true] at hall
      exact ⟨v, _, ⟨hall.1, by simp⟩, vs', rest, ⟨Nat.succ.inj hlen, hall.2, rfl⟩, rfl⟩

/-! ### The operands of each format -/

@[simp] theorem readByteValue_eq_ok_iff {bs rest : List Byte} {b : Byte} {v : Word} :
    readByteValue bs = .ok ((b, v), rest) ↔ fitsField v = true ∧ bs = bodyC1V b v ++ rest := by
  simp only [readByteValue_eq_next, Reading.next_eq_ok_iff, readByte_eq_ok_iff, readValue_eq_ok_iff]
  constructor
  · rintro ⟨b, _, rfl, v, rest, ⟨hfits, rfl⟩, ⟨⟩⟩
    exact ⟨hfits, rfl⟩
  · rintro ⟨hfits, rfl⟩
    exact ⟨b, _, rfl, v, rest, ⟨hfits, rfl⟩, rfl⟩

@[simp] theorem readByteTwoValues_eq_ok_iff {bs rest : List Byte} {b : Byte} {v w : Word} :
    readByteTwoValues bs = .ok ((b, v, w), rest) ↔
      (fitsField v && fitsField w) = true ∧ bs = bodyC2V b v w ++ rest := by
  simp only [readByteTwoValues_eq_next, Reading.next_eq_ok_iff, Prod.exists, readByteValue_eq_ok_iff,
    readValue_eq_ok_iff, Bool.and_eq_true]
  constructor
  · rintro ⟨b, v, _, ⟨hv, rfl⟩, w, rest, ⟨hw, rfl⟩, ⟨⟩⟩
    exact ⟨⟨hv, hw⟩, by simp [bodyC1V, bodyC2V]⟩
  · rintro ⟨⟨hv, hw⟩, rfl⟩
    exact ⟨b, v, enc14 w ++ rest, ⟨hv, by simp [bodyC1V, bodyC2V]⟩, w, rest, ⟨hw, rfl⟩, rfl⟩

/-- The count byte is the length of the list, and the port's bound is the decoder's (rule R100). -/
@[simp] theorem readBatch_eq_ok_iff {bs rest : List Byte} {start : Byte} {vs : List Word} :
    readBatch bs = .ok ((start, vs), rest) ↔
      vs.length ≤ Config.channels ∧ vs.all fitsField = true ∧ bs = bodyM start vs ++ rest := by
  constructor
  · intro h
    match bs with
    | [] | [_] => cases h
    | n :: start' :: tail =>
      by_cases hn : n.toNat ≤ Config.channels
      · simp only [readBatch_of_le hn, Reading.next_eq_ok_iff, readValues_eq_ok_iff] at h
        obtain ⟨vs', _, ⟨hlen, hall, rfl⟩, ⟨⟩⟩ := h
        exact ⟨hlen ▸ hn, hall, by simp [bodyM, hlen]⟩
      · cases (if_neg hn).symm.trans h
  · rintro ⟨hlen, hall, rfl⟩
    have h24 : vs.length ≤ 24 := hlen
    have hcount : (BitVec.ofNat 8 vs.length).toNat = vs.length := by
      rw [BitVec.toNat_ofNat]
      omega
    have hread : readBatch (bodyM start vs ++ rest) = _ :=
      readBatch_of_le (hcount.symm ▸ hlen) start (vs.flatMap enc14 ++ rest)
    rw [hread, Reading.next_eq_ok_iff]
    exact ⟨vs, rest, readValues_eq_ok_iff.2 ⟨hcount.symm, hall, rfl⟩, rfl⟩

/-- An operation made of one part of its encoding is read exactly where that part is. -/
theorem as_eq_ok_iff {α : Type} {r : Reading α} {mk : α → Instr} {i : Instr} {rest : List Byte} :
    r.as mk = .ok (i, rest) ↔ ∃ a, r = .ok (a, rest) ∧ mk a = i := by
  simp only [as_eq_next, Reading.next_eq_ok_iff, Except.ok.injEq, Prod.mk.injEq]
  constructor
  · rintro ⟨a, _, hr, hmk, rfl⟩
    exact ⟨a, hr, hmk⟩
  · rintro ⟨a, hr, hmk⟩
    exact ⟨a, rest, hr, hmk, rfl⟩

/-- The operand readers accept exactly the body of an operation that the port can carry and whose values
fit their fields. -/
theorem readOperands_eq_ok_iff {c : Command} {bs rest : List Byte} {i : Instr} :
    readOperands c bs = .ok (i, rest) ↔
      i.command? = some c ∧ i.wellFormed = true ∧ i.fitsWire = true ∧ bs = commandBody i ++ rest := by
  constructor
  · intro h
    cases c <;> simp only [readOperands, as_eq_ok_iff, Prod.exists, readByte_eq_ok_iff,
      readByteValue_eq_ok_iff, readByteTwoValues_eq_ok_iff, readBatch_eq_ok_iff] at h
    case setMultipleTargets =>
      obtain ⟨start, vs, ⟨hlen, hfits, rfl⟩, rfl⟩ := h
      exact ⟨rfl, decide_eq_true hlen, hfits, rfl⟩
    case setTarget | setSpeed | setAccel | restartScriptParam =>
      obtain ⟨b, v, ⟨hfits, rfl⟩, rfl⟩ := h
      exact ⟨rfl, rfl, hfits, rfl⟩
    case setPwm =>
      obtain ⟨ch, on, per, ⟨hfits, rfl⟩, rfl⟩ := h
      exact ⟨rfl, rfl, hfits, rfl⟩
    case getPosition | restartScript =>
      obtain ⟨b, rfl, rfl⟩ := h
      exact ⟨rfl, rfl, rfl, rfl⟩
    all_goals
      cases h
      exact ⟨rfl, rfl, rfl, rfl⟩
  · rintro ⟨hc, hwf, hfits, rfl⟩
    cases i with
    | setMultipleTargets start vs =>
      cases hc
      exact as_eq_ok_iff.2 ⟨(start, vs), readBatch_eq_ok_iff.2 ⟨of_decide_eq_true hwf, hfits, rfl⟩, rfl⟩
    | setTarget b v | setSpeed b v | setAccel b v | restartScriptParam b v =>
      cases hc
      exact as_eq_ok_iff.2 ⟨(b, v), readByteValue_eq_ok_iff.2 ⟨hfits, rfl⟩, rfl⟩
    | setPwm ch on per =>
      cases hc
      exact as_eq_ok_iff.2 ⟨(ch, on, per), readByteTwoValues_eq_ok_iff.2 ⟨hfits, rfl⟩, rfl⟩
    | init | replyDone | crc7 | trail | enc14 | dec14 | dec16 => cases hc
    | _ => cases hc; rfl

/-! ### The head and the trailer -/

/-- A command is read at its own byte, if no earlier one of the table has that byte (log 7). -/
theorem commandOf_eq_some_iff {p : Params} {m : Mode} {b : Byte} {c : Command} :
    commandOf p m b = some c ↔ b = codeByte p m c ∧ commandOf p m (codeByte p m c) = some c := by
  constructor
  · intro h
    have hb : b = codeByte p m c := (beq_iff_eq.1 (List.find?_some h :)).symm
    exact ⟨hb, hb ▸ h⟩
  · rintro ⟨rfl, h⟩
    exact h

theorem mem_command_all (c : Command) : c ∈ Command.all := by cases c <;> decide

/-- With distinct command bytes every command is read at its own. -/
theorem commandOf_codeByte {p : Params} {m : Mode} (hd : codesDistinct p m) (c : Command) :
    commandOf p m (codeByte p m c) = some c := by
  have hsome : (commandOf p m (codeByte p m c)).isSome = true :=
    List.find?_isSome.2 ⟨c, mem_command_all c, beq_self_eq_true _⟩
  obtain ⟨c', hc'⟩ := Option.isSome_iff_exists.1 hsome
  rw [hc', hd c c' (commandOf_eq_some_iff.1 hc').1]

theorem readCommand_eq_ok_iff {p : Params} {m : Mode} {bs rest : List Byte} {c : Command} :
    readCommand p m bs = .ok (c, rest) ↔
      commandOf p m (codeByte p m c) = some c ∧ bs = codeByte p m c :: rest := by
  constructor
  · intro h
    cases bs with
    | nil => cases h
    | cons b tail =>
      rw [readCommand] at h
      split at h
      next c' hc' =>
        cases h
        obtain ⟨rfl, hown⟩ := commandOf_eq_some_iff.1 hc'
        exact ⟨hown, rfl⟩
      next => cases h
  · rintro ⟨hown, rfl⟩
    simp [readCommand, hown]

/-- The head reader accepts exactly the preamble of a command that its byte stands for. -/
theorem readHead_eq_ok_iff {p : Params} {f : Framing} {bs rest : List Byte} {c : Command} :
    readHead p f bs = .ok (c, rest) ↔
      commandOf p f.mode (codeByte p f.mode c) = some c ∧ bs = headBytes p f c ++ rest := by
  cases hm : f.mode with
  | compact =>
    have hhead : headBytes p f c = [codeByte p .compact c] := by simp [headBytes, hm]
    simp only [readHead, hm, hhead]
    exact readCommand_eq_ok_iff
  | addressed =>
    have hhead : headBytes p f c =
        [0b10101010#8, sevenBits f.devaddr, codeByte p .addressed c] := by simp [headBytes, hm]
    simp only [readHead, hm, hhead]
    constructor
    · intro h
      match bs with
      | [] | [_] => cases h
      | b0 :: b1 :: tail =>
        by_cases hsync : b0 = 0b10101010#8
        · by_cases haddr : b1 = sevenBits f.devaddr
          · simp only [hsync, haddr, ne_eq, not_true_eq_false, if_false, readCommand_eq_ok_iff] at h ⊢
            obtain ⟨hown, rfl⟩ := h
            exact ⟨hown, rfl⟩
          · simp [hsync, haddr] at h
        · simp [hsync] at h
    · rintro ⟨hown, rfl⟩
      simpa using readCommand_eq_ok_iff.2 ⟨hown, rfl⟩

/-- The trailer reader accepts exactly the trailer of the bytes before, and answers the operation it was
given. -/
theorem readTrailer_eq_ok_iff {p : Params} {f : Framing} {before bs rest : List Byte} {i j : Instr} :
    readTrailer p f before i bs = .ok (j, rest) ↔
      j = i ∧ before ++ bs = withTrailer p f before ++ rest := by
  cases hcs : f.csen with
  | false => simp [readTrailer, withTrailer, hcs, eq_comm]
  | true =>
    cases bs with
    | nil => simp [readTrailer, withTrailer, hcs]
    | cons k tail =>
      by_cases hk : k = trailerByte p before <;>
        simp [readTrailer, withTrailer, hcs, hk, eq_comm]

/-! ### Whole frames -/

/-- A trailer, if there is one, stands at the end. -/
theorem withTrailer_eq_append (p : Params) (f : Framing) (bs : List Byte) :
    ∃ trailer, withTrailer p f bs = bs ++ trailer := by
  cases hcs : f.csen with
  | false => exact ⟨[], by simp [withTrailer, hcs]⟩
  | true => exact ⟨_, by rw [withTrailer, if_pos hcs]⟩

/-- The frame reader accepts exactly the frame of an operation that the port can carry, whose values fit
their fields and whose command byte stands for it; the empty batch counts, as a frame with count 0. -/
theorem decodeFrame_eq_ok_iff {p : Params} {f : Framing} {bs rest : List Byte} {i : Instr} :
    decodeFrame p f bs = .ok (i, rest) ↔
      ∃ c, i.command? = some c ∧ i.wellFormed = true ∧ i.fitsWire = true ∧
        commandOf p f.mode (codeByte p f.mode c) = some c ∧
        bs = frame p.poly f (p.opc c) (commandBody i) ++ rest := by
  have before (c : Command) (tail : List Byte) :
      (headBytes p f c ++ (commandBody i ++ tail)).take
        ((headBytes p f c ++ (commandBody i ++ tail)).length - tail.length) =
          headBytes p f c ++ commandBody i := by
    rw [← List.append_assoc]
    exact List.take_left' (by rw [List.length_append (bs := tail), Nat.add_sub_cancel])
  simp only [decodeFrame_eq_next, Reading.next_eq_ok_iff, readHead_eq_ok_iff, readOperands_eq_ok_iff,
    readTrailer_eq_ok_iff, ← withTrailer_headBytes_eq_frame]
  constructor
  · rintro ⟨c, _, ⟨hown, rfl⟩, i', tail, ⟨hc, hwf, hfits, rfl⟩, rfl, htail⟩
    rw [before] at htail
    exact ⟨c, hc, hwf, hfits, hown, by rw [← htail, List.append_assoc]⟩
  · rintro ⟨c, hc, hwf, hfits, hown, rfl⟩
    obtain ⟨trailer, htrailer⟩ := withTrailer_eq_append p f (headBytes p f c ++ commandBody i)
    have hbytes : withTrailer p f (headBytes p f c ++ commandBody i) ++ rest =
        headBytes p f c ++ (commandBody i ++ (trailer ++ rest)) := by
      simp only [htrailer, List.append_assoc]
    refine ⟨c, _, ⟨hown, hbytes⟩, i, trailer ++ rest, ⟨hc, hwf, hfits, rfl⟩, rfl, ?_⟩
    rw [hbytes, before, htrailer]
    simp only [List.append_assoc]

/-! ### The creation byte and the settled obligations -/

/-- A frame is no creation: in compact mode it begins with a command's code, in addressed mode it is
longer than one byte. -/
theorem isCreation_frame {p : Params} {f : Framing} (hd : codesDistinct p f.mode) (c : Command)
    (body rest : List Byte) : isCreation p f (frame p.poly f (p.opc c) body ++ rest) = false := by
  obtain ⟨trailer, hframe, -⟩ := frame_eq_append_clean p.poly f (p.opc c) body
  rw [hframe, ← headBytes_eq_preamble]
  cases hm : f.mode with
  | compact =>
    have hown : commandOf p .compact (codeByte p .compact c) = some c := commandOf_codeByte (hm ▸ hd) c
    simp [isCreation, headBytes, hm, hown]
  | addressed => simp [isCreation, headBytes, hm]

/-- The bytes of a creation are the auto-baud byte and the rest. -/
theorem eq_cons_of_isCreation {p : Params} {f : Framing} {bs : List Byte}
    (h : isCreation p f bs = true) : bs = p.autobaud :: bs.drop 1 := by
  cases hm : f.mode with
  | compact =>
    cases bs with
    | nil => simp [isCreation, hm] at h
    | cons b tail =>
      simp only [isCreation, hm, Bool.and_eq_true, beq_iff_eq] at h
      rw [h.1]
      rfl
  | addressed =>
    simp only [isCreation, hm, beq_iff_eq] at h
    rw [h]
    rfl

/-- Settles O20: the encoding is the frame of the body, which is no creation and which the frame reader
accepts as the command's. -/
theorem decodeInvertsEncode : Obligations.DecodeInvertsEncode := by
  intro p f i w rest hd hwf hfits hi hw
  obtain ⟨c, hc⟩ := Option.isSome_iff_exists.1 hi
  have hne : ∀ start, i ≠ .setMultipleTargets start [] := by
    rintro start rfl
    cases (encode_emptyBatch p f start).symm.trans hw
  obtain rfl : frame p.poly f (p.opc c) (commandBody i) = w :=
    Option.some.inj ((encode_command hwf hc hne).symm.trans hw)
  rw [decode, isCreation_frame hd, if_neg Bool.false_ne_true]
  exact decodeFrame_eq_ok_iff.2 ⟨c, hc, hwf, hfits, commandOf_codeByte hd c, rfl⟩

/-- Settles O21: a creation is its one byte, and a frame the reader accepts is the encoding of what it
answers, unless that is the empty batch, which has none. -/
theorem decodeAcceptsOnlyEncodings : Obligations.DecodeAcceptsOnlyEncodings := by
  intro p f bs rest i h
  cases hcreation : isCreation p f bs with
  | true =>
    rw [decode, if_pos hcreation] at h
    cases h
    exact ⟨rfl, rfl, .inr ⟨[p.autobaud], rfl, eq_cons_of_isCreation hcreation⟩⟩
  | false =>
    rw [decode, hcreation, if_neg Bool.false_ne_true] at h
    obtain ⟨c, hc, hwf, hfits, -, rfl⟩ := decodeFrame_eq_ok_iff.1 h
    refine ⟨hwf, hfits, ?_⟩
    by_cases hne : ∀ start, i ≠ .setMultipleTargets start []
    · exact .inr ⟨_, encode_command hwf hc hne, rfl⟩
    · push Not at hne
      exact .inl hne

/-- Settles O22: the decoder runs on each word. -/
theorem opcodeTableWordsDecode : Obligations.OpcodeTableWordsDecode := by
  refine ⟨?_, ?_, ?_, ?_, ?_, ?_, ?_⟩ <;> decide +kernel

end Sys2Proof.Machine

/-! ## The frame as a whole

The frame as the pure function of the configuration that the datapath computes (30_encoding.md section 1),
and how long it is (section 2). -/

namespace Sys2Proof.Machine

@[simp] theorem frame_length (poly : Byte) (f : Framing) (op : Byte) (body : List Byte) :
    (frame poly f op body).length =
      preambleLength f + body.length + (if f.csen then 1 else 0) := by
  cases hcs : f.csen <;> simp [frame, hcs, Nat.add_assoc]

/-- Only a command has a frame. -/
theorem command_of_encodeFrame {p : Params} {f : Framing} {i : Instr} {w : List Byte}
    (hw : encodeFrame p f i = some w) : ∃ c, i.command? = some c := by
  cases i with
  | init | replyDone | crc7 | trail | enc14 | dec14 | dec16 => cases hw
  | _ => exact ⟨_, rfl⟩

theorem preambleLength_bounds (f : Framing) : 1 ≤ preambleLength f ∧ preambleLength f ≤ 3 := by
  cases hm : f.mode <;> simp [preambleLength, Mode.bit, hm]

/-- The longest body is that of a batch of 24 values. -/
theorem bodyLength_le {i : Instr} (hwf : i.wellFormed = true) : i.bodyLength ≤ 50 := by
  cases i with
  | setMultipleTargets start vals =>
    have hlen : vals.length ≤ 24 := of_decide_eq_true hwf
    simp only [Instr.bodyLength]
    omega
  | _ => simp [Instr.bodyLength]

theorem encodeFrame_length {p : Params} {f : Framing} {i : Instr} {w : List Byte}
    (hwf : i.wellFormed = true) (hw : encodeFrame p f i = some w) :
    w.length = preambleLength f + i.bodyLength + (if f.csen then 1 else 0) := by
  obtain ⟨c, hc⟩ := command_of_encodeFrame hw
  rw [encodeFrame_command hwf hc hw, frame_length, commandBody_length]

/-! ### The settled obligations -/

/-- Settles O17: the two forms of the frame by CSEN, and the law of the datapath. -/
theorem frameIsPreambleBodyTrailer : Obligations.FrameIsPreambleBodyTrailer :=
  ⟨fun poly _ op body =>
    ⟨fun hcs => frame_of_not_csen hcs poly op body, fun hcs => frame_of_csen hcs poly op body⟩,
    fun p op body s => ⟨_, State.assemble_eq p op body s, fun hcs => by rw [hcs]; rfl⟩⟩

/-- Settles O18: the length law, its bounds from those of the preamble and the body, and the shortest and
the longest frame. -/
theorem frameLengthsByFormat : Obligations.FrameLengthsByFormat := by
  refine ⟨fun p f i w hwf hw => ?lengths, fun p => ⟨_, rfl, rfl⟩, fun p v => ?longest⟩
  case lengths =>
    have hlen := encodeFrame_length hwf hw
    obtain ⟨hpos, hpre⟩ := preambleLength_bounds f
    have hbody := bodyLength_le hwf
    have hmax : Config.fmax = 54 := rfl
    refine ⟨hlen, ?_, ?_⟩ <;> split at hlen <;> omega
  case longest =>
    exact ⟨_, rfl, encodeFrame_length (p := p) (f := ⟨.addressed, 127, true⟩)
      (i := .setMultipleTargets 0 (List.replicate 24 v)) rfl rfl⟩

end Sys2Proof.Machine

/-! ## The primitives

The five primitives complete in every state: each hands its value back and touches nothing else
(rules R65, R111). -/

namespace Sys2Proof.Machine

/-- The checksum as a left fold of table entries (rule R63). -/
theorem crc7_eq_foldl (poly prev : Byte) (xs : List Byte) :
    crc7 poly prev xs = xs.foldl (fun acc b => crcTable poly (acc ^^^ b)) prev := by
  induction xs generalizing prev with
  | nil => rfl
  | cons b rest ih => exact ih _

theorem answer_eq (r : Returned) (s : State) :
    answer r s = .next { s with returned := s.returned ++ [r] } := rfl

/-- Settles O37: the values are the fold of table entries, and that fold modulo 128. -/
theorem checksumPrimitivesCompleteInEveryState :
    Obligations.ChecksumPrimitivesCompleteInEveryState := by
  intro s prev xs
  rw [← crc7_eq_foldl, ← crc7_eq_foldl, ← trail_eq_ofNat_mod, ← answer_eq, ← answer_eq]
  exact ⟨rfl, rfl⟩

/-- Settles O38: the values are the arithmetic forms of the codec. -/
theorem codecPrimitivesCompleteInEveryState : Obligations.CodecPrimitivesCompleteInEveryState := by
  intro s v lo hi
  rw [← enc14_eq_valueBytes, ← dec14_eq_ofNat, ← dec16_eq_ofNat, ← answer_eq, ← answer_eq, ← answer_eq]
  exact ⟨rfl, rfl, rfl⟩

end Sys2Proof.Machine
